-- ==== Sys2Proof/Word.lean ====
section
/-!
DEFINITION. The word types of the core: a byte, and the 8-byte Device Address (spec/10_state.md rule R20).
Everything computed from them stands in the files under Machine/.
-/

namespace Sys2Proof

/-- A byte is 8 bits, unsigned unless said otherwise (spec/00_scope.md rule R11). -/
abbrev Byte := BitVec 8

/-- A Device Address: eight bytes, `b0` the model (family) code, `b1` to `b6` the serial, `b7` the CRC-8 of
bytes 0 to 6 (spec/10_state.md rule R20). -/
structure Addr where
  b0 : Byte
  b1 : Byte
  b2 : Byte
  b3 : Byte
  b4 : Byte
  b5 : Byte
  b6 : Byte
  b7 : Byte
deriving DecidableEq, Repr

/-- The all-zero address (spec/10_state.md rule R41, spec/46_session.md rule R192). -/
def Addr.zero : Addr := ⟨0, 0, 0, 0, 0, 0, 0, 0⟩

end Sys2Proof
end

