-- ==== Sys2Proof/Config.lean ====
section
/-!
DEFINITION. What one built core fixes (the parameter record of spec/00_scope.md rule R8) and the free values: the
answers of the Bus Transport that no script of the state names, and the CRC-8 function of a core whose CRC-8 is not the
reference one. The free values have no body: nothing in Lean can evaluate them (notes/assumptions/2, 3, 4).
-/

namespace Sys2Proof

/-- Which function the parameter `CRC8` of rule R8 is. `reference` is the Dallas/Maxim CRC-8 of
spec/93_implementation_defined.md G4. `other` is any function whatever: the uninterpreted `Config.crc8Other`. -/
inductive Crc8 where
  | reference
  | other
deriving DecidableEq, Repr

/-- The parameters of one core (spec/00_scope.md rule R8). They are held in the state because the fixed form of a step
has no other argument that could carry them; no step ever writes them (notes/assumptions/1). The constraints of rules
R8, R9 and R10 on them are `Params.WF` (Sys2Proof/Safety.lean). -/
structure Params where
  /-- The model code of family A. -/
  modelA : Byte
  /-- The model code of family B. -/
  modelB : Byte
  /-- The model code of family C. -/
  modelC : Byte
  /-- The wire command byte STARTCONVO. -/
  cmdStartConvo : Byte
  /-- The wire command byte COPYSCRATCH. -/
  cmdCopyScratch : Byte
  /-- The wire command byte READSCRATCH. -/
  cmdReadScratch : Byte
  /-- The wire command byte WRITESCRATCH. -/
  cmdWriteScratch : Byte
  /-- The wire command byte READPOWERSUPPLY. -/
  cmdReadPowerSupply : Byte
  /-- The configuration pattern of the 9-bit level. -/
  cfg9 : Byte
  /-- The configuration pattern of the 10-bit level. -/
  cfg10 : Byte
  /-- The configuration pattern of the 11-bit level. -/
  cfg11 : Byte
  /-- The configuration pattern of the 12-bit level. -/
  cfg12 : Byte
  /-- The CRC-8 function. -/
  crc8 : Crc8
  /-- `SENTINEL`, a signed 24-bit count of 1/16 degree Celsius. -/
  sentinel : BitVec 24
  /-- `N_FULL`, the number of bytes of a full scratchpad read. -/
  nFull : Nat
  /-- `IDX_W`, the width of the Bus Position Index. -/
  idxW : Nat
deriving DecidableEq, Repr

/-- FREE VALUE: the CRC-8 of a core whose `crc8` parameter is `Crc8.other`. What rules R9 and R10 ask of it is a premise
of a statement (`Params.WF`), never a fact of Lean. -/
opaque Config.crc8Other : List Byte → Byte

/-- FREE VALUE: the presence bit of a bus reset that no script names (spec/20_memory.md rule R58: the core drops it). -/
opaque Config.freePresence : Nat → Bool

/-- FREE VALUE: the candidates of an enumeration that no script names, a finite list (spec/46_session.md rule R194). -/
opaque Config.freeCandidates : Nat → List Addr

/-- FREE VALUE: a byte read that no script names (spec/93_implementation_defined.md U6). -/
opaque Config.freeByte : Nat → Byte

/-- FREE VALUE: a bit read that no script names (spec/93_implementation_defined.md U6). -/
opaque Config.freeBit : Nat → Bool

end Sys2Proof
end

