-- ==== Sys2Proof/Machine/Crc8.lean ====
section
/-!
DEFINITION. The CRC-8 function of a core: the reference one, the Dallas/Maxim CRC-8 in the bitwise form that
spec/93_implementation_defined.md G4 writes out, or the uninterpreted one (spec/00_scope.md rules R8 and R9). The core
consumes the function through the transport interface and does not own it (spec/90_conflicts.md C6).
-/

namespace Sys2Proof

/-- One turn of the inner loop of G4 on the running value alone: shift right, and XOR 0x8C when a one fell out. -/
def crcShift (crc : Byte) : Byte :=
  if crc.getLsbD 0 then (crc >>> 1) ^^^ 0x8C else crc >>> 1

/-- The running value after one byte: the byte is XORed in, then eight turns. -/
def crcByte (crc b : Byte) : Byte :=
  crcShift (crcShift (crcShift (crcShift (crcShift (crcShift (crcShift (crcShift (crc ^^^ b))))))))

/-- The Dallas/Maxim CRC-8: initial value zero, no final inversion (G4). -/
def crcReference (m : List Byte) : Byte := m.foldl crcByte 0

/-- The parameter `CRC8` (spec/00_scope.md rule R8). -/
def Crc8.apply (c : Crc8) (m : List Byte) : Byte :=
  match c with
  | .reference => crcReference m
  | .other => Config.crc8Other m

/-- Bytes 0 to 6 of an address, which its CRC-8 is taken over (spec/10_state.md rule R20). -/
def Addr.body (a : Addr) : List Byte := [a.b0, a.b1, a.b2, a.b3, a.b4, a.b5, a.b6]

/-- The address as one 64-bit value, byte `i` in bits `[8i+7:8i]` (spec/10_state.md rule R20). -/
def Addr.toBits (a : Addr) : BitVec 64 :=
  a.b7 ++ a.b6 ++ a.b5 ++ a.b4 ++ a.b3 ++ a.b2 ++ a.b1 ++ a.b0

end Sys2Proof
end

