-- ==== Sys2Proof/Machine/Reference.lean ====
section
/-!
DEFINITION. The reference values of the parameters (the column "reference value" of spec/00_scope.md rule R8): the
values the state after reset carries. They are from general knowledge and not from the source
(spec/93_implementation_defined.md G1 to G4), so they are PRESUMED (notes/assumptions/1).
-/

namespace Sys2Proof

/-- The reference values of spec/00_scope.md rule R8. -/
def Params.reference : Params where
  modelA := 0x28
  modelB := 0x10
  modelC := 0x22
  cmdStartConvo := 0x44
  cmdCopyScratch := 0x48
  cmdReadScratch := 0xBE
  cmdWriteScratch := 0x4E
  cmdReadPowerSupply := 0xB4
  cfg9 := 0x1F
  cfg10 := 0x3F
  cfg11 := 0x5F
  cfg12 := 0x7F
  crc8 := .reference
  sentinel := 0x800000
  nFull := 8
  idxW := 8

/-- `TH_DEFAULT`, +125 as a signed byte: one of the two fixed parameters of rule R8 (spec/10_state.md rule R22). -/
def thDefault : Byte := 0x7D

/-- `TL_DEFAULT`, -55 as a signed byte: one of the two fixed parameters of rule R8 (spec/10_state.md rule R22). -/
def tlDefault : Byte := 0xC9

end Sys2Proof
end

