-- ==== Sys2Proof/Syntax.lean ====
section
/-!
DEFINITION. The instructions: the thirteen host commands of spec/30_encoding.md rule R72, one constructor per row of
spec/opcode_table.json.
-/

namespace Sys2Proof

/-- A host command (spec/30_encoding.md rule R72). SETRES and SPRD carry the one operand, an unsigned integer that the
word holds in 8 bits (rule R73); the rules that use it speak of an integer, so it is one here, and `WellFormed` says
that the word can hold it. -/
inductive Instr where
  /-- BEGIN, spec/46_session.md rule R190. -/
  | begin
  /-- RESET, spec/46_session.md rule R192. -/
  | reset
  /-- ISVALID, spec/40_address_validator.md rule R104. -/
  | isvalid
  /-- GETTC, spec/44_temperature.md rule R164. -/
  | gettc
  /-- GETTF, spec/44_temperature.md rule R166. -/
  | gettf
  /-- ISPARA, spec/42_power_mode.md rule R133. -/
  | ispara
  /-- GETRES, spec/45_resolution.md rule R181. -/
  | getres
  /-- SETRES level, spec/45_resolution.md rule R183. -/
  | setres (level : Nat)
  /-- REQBC, spec/43_conversion.md rule R150. -/
  | reqbc
  /-- WAITCV, spec/43_conversion.md rule R151. -/
  | waitcv
  /-- GETADDR, spec/40_address_validator.md rule R105. -/
  | getaddr
  /-- SPRD n, spec/41_scratchpad.md rule R116. -/
  | sprd (n : Nat)
  /-- SPWR, spec/41_scratchpad.md rule R117. -/
  | spwr
deriving DecidableEq, Repr

end Sys2Proof
end

