-- ==== Sys2Proof/Machine/State.lean ====
section
/-!
DEFINITION. The state of the core: the registers of spec/10_state.md rule R30 with the address register and the
scratchpad image (rules R20 and R21), and beside them, as plain data, what a step needs of the outside: the parameters,
the answers the Bus Transport is going to give, the inputs the host is going to give, and what the core has shown of
itself, the trace and the response (spec/00_scope.md rule R12).
-/

namespace Sys2Proof.Machine

/-- The Validation Outcome (spec/40_address_validator.md rule R100). It is not state (spec/10_state.md rule R34). -/
inductive Validation where
  | good
  | invalidCrc
  | invalidModel
deriving DecidableEq, Repr

/-- The Conversion Controller state `CONV` (spec/10_state.md rule R26): the value 3 is never taken, so there is none. -/
inductive Conv where
  | idle
  | requested
  | ready
deriving DecidableEq, Repr

/-- The cause of a fatal logic error, `CAUSE` (spec/60_exceptions.md rule R201): the value 3 is never produced. -/
inductive Cause where
  | none
  | cfgUnrecognized
  | modelNoDecode
deriving DecidableEq, Repr

/-- The eight requests of the transport port (spec/20_memory.md rule R56, spec/30_encoding.md rule R78). -/
inductive Request where
  | busReset
  | enumReset
  | enumNext
  | select (a : Addr)
  | skip
  | write (b : Byte) (hold : Bool)
  | readByte
  | readBit
deriving DecidableEq, Repr

/-- The reply fields of the transport port (spec/20_memory.md rule R56): a request uses those that rule R78 of
spec/30_encoding.md names, the others are zero. -/
structure Reply where
  rdata : Byte := 0
  rbit : Bool := false
  found : Bool := false
  raddr : Addr := Addr.zero
deriving DecidableEq, Repr

/-- One event of a trace (spec/00_scope.md rule R12), with the answer the Bus Transport gave where the core uses it. -/
inductive Event where
  | reset
  | enumReset
  | enumNext (answer : Option Addr)
  | select (a : Addr)
  | skip
  | write (b : Byte) (hold : Bool)
  | readByte (v : Byte)
  | readBit (v : Bool)
  | delay (ms : Nat)
deriving DecidableEq, Repr

/-- The response record (spec/30_encoding.md rule R74). -/
structure Response where
  err : Bool
  st : BitVec 2
  val : BitVec 24
  addr : BitVec 64
deriving DecidableEq, Repr

/-- What a `BusWrite` of the core sends: one of the five wire command bytes (spec/30_encoding.md rule R77) or one of the
three image bytes a scratchpad write sends (spec/41_scratchpad.md rule R113). -/
inductive WireItem where
  | readScratch
  | writeScratch
  | copyScratch
  | startConvo
  | readPowerSupply
  | highAlarm
  | lowAlarm
  | configuration
deriving DecidableEq, Repr

/-- One step of a command's sequence, as the sequencer register names it (spec/10_state.md rule R33). The steps that
name a gated sequence (`spread`, `spwrite`, `pwrDetect`, `convStart`, `tempRead`, `setresBody`) test the validity gate
and put the sequence's own steps in their place when it is open. -/
inductive Micro where
  /-- `AUTO <- 1` (spec/46_session.md rule R190). -/
  | beginMode
  /-- Step 1 of RESET: the defaults (rule R192). -/
  | loadDefaults
  /-- `EnumReset()`. -/
  | enumReset
  /-- One turn of the discovery loop, with the count of valid devices seen (rule R193). -/
  | enumNext (count : Nat)
  /-- The gate of `M_PWRDETECT` (spec/42_power_mode.md rule R131). -/
  | pwrDetect
  /-- The gate of `M_SPREAD(n)` (spec/41_scratchpad.md rule R111). -/
  | spread (n : Nat)
  /-- The gate of `M_SPWRITE` (spec/41_scratchpad.md rule R114). -/
  | spwrite
  /-- The gate of `M_CONVSTART` (spec/43_conversion.md rule R145). -/
  | convStart
  /-- The gate of `M_TEMPREAD` (spec/44_temperature.md rule R163). -/
  | tempRead
  /-- The gate of SETRES (spec/45_resolution.md rule R183). -/
  | setresBody (level : Nat)
  /-- `BusReset()`. -/
  | busReset
  /-- `BusSelect(ADDR)`. -/
  | select
  /-- `BusSkip()`. -/
  | skip
  /-- `BusWrite` of an item with its hold bit (spec/20_memory.md rule R57). -/
  | write (item : WireItem)
  /-- `BusReadByte()` of position `k` (spec/20_memory.md rule R51). -/
  | readByte (k : Nat)
  /-- `BusReadBit()`, the power-supply bit, and `PAR <- NOT b` (spec/42_power_mode.md rule R130). -/
  | readPower
  /-- `CONV <- c`. -/
  | setConv (c : Conv)
  /-- `CFG <- cfg_of_level(level)` (spec/45_resolution.md rule R183). -/
  | setCfg (level : Nat)
  /-- `Delay(delay_of_cfg(CFG))` (spec/43_conversion.md rule R141). -/
  | convDelay
  /-- `if PAR == 1 then Delay(10)` (spec/41_scratchpad.md rule R113). -/
  | settle
  /-- The step that ends the command: its response, or Fatal. -/
  | finish
deriving DecidableEq, Repr

/-- The sequencer register `SEQ` (spec/10_state.md rule R33): IDLE, or the command in progress and the steps of its
sequence that are still to come, the next one first, or the response cycle that ends every accepted word which does not
end in Fatal: `cmd_ready` returns to 1 only after it (spec/30_encoding.md rule R70). -/
inductive Seq where
  | idle
  | busy (cmd : Instr) (steps : List Micro)
  | responding
deriving DecidableEq, Repr

/-- What the outside does next to the core (spec/30_encoding.md rule R79). -/
inductive Input where
  /-- The host presents the word and holds it until the core has run the command to its end. -/
  | command (word : BitVec 12)
  /-- The host presents the word until it is accepted. The command then runs one step of its sequence at a time. -/
  | start (word : BitVec 12)
  /-- No command is presented while one step of the sequence, or one millisecond of a delay, goes by. -/
  | clock
  /-- `rst_n` goes low, with the strap input `idx_in` (spec/70_reset_and_hazards.md rule R220). -/
  | hwReset (idxIn : Nat)
deriving DecidableEq, Repr

/-- The answers still to come of one kind: those a script names, oldest first, and how many have been taken. -/
structure Script (α : Type) where
  queue : List α
  used : Nat
deriving DecidableEq, Repr

/-- The answers the Bus Transport is going to give, and the rest of the enumeration in progress (spec/10_state.md rule
R37). This is no state of the core: it is the oracle, as plain data. -/
structure Bus where
  /-- The presence bits of `BusReset()`. -/
  presence : Script Bool
  /-- The candidates of each enumeration to come, one list per `EnumReset()`. -/
  sessions : Script (List Addr)
  /-- The candidates the enumeration in progress has still to give. -/
  candidates : List Addr
  /-- The bytes of `BusReadByte()`. -/
  bytes : Script Byte
  /-- The bits of `BusReadBit()`. -/
  bits : Script Bool
deriving DecidableEq, Repr

/-- Nothing is said about the Bus Transport: every answer is free. -/
def Bus.unknown : Bus := ⟨⟨[], 0⟩, ⟨[], 0⟩, [], ⟨[], 0⟩, ⟨[], 0⟩⟩

/-- The whole state. -/
structure State where
  /-- `ADDR[0..7]`, the Device Address (spec/10_state.md rule R20). -/
  addr : Addr
  /-- `SP[0]`, the raw temperature's low byte (rule R21). -/
  tLsb : Byte
  /-- `SP[1]`, the raw temperature's high byte (rule R21). -/
  tMsb : Byte
  /-- `SP[2]`, the high-alarm register (rule R21). -/
  th : Byte
  /-- `SP[3]`, the low-alarm register (rule R21). -/
  tl : Byte
  /-- `SP[4]`, the configuration register (rules R21 and R31). -/
  cfg : Byte
  /-- `PAR`, the parasite-power flag (rule R24). -/
  par : Bool
  /-- `AUTO`, the per-device mode flag (rule R25). -/
  auto : Bool
  /-- `CONV`, the Conversion Controller state (rule R26). -/
  conv : Conv
  /-- `FATAL` (rule R27). -/
  fatal : Bool
  /-- `CAUSE` (rule R27). -/
  cause : Cause
  /-- `TMR`, the delay timer (rule R29). -/
  tmr : BitVec 10
  /-- `SEQ`, the sequencer register (rule R33). -/
  seq : Seq
  /-- `IDX`, the Bus Position Index, below 2^`IDX_W` (rule R28). -/
  idx : Nat
  /-- The parameters of the core (spec/00_scope.md rule R8): no state of the core, never written (rule R35). -/
  params : Params
  /-- The Bus Transport's answers: no state of the core (rules R35 and R37). -/
  bus : Bus
  /-- What the host is going to do, next first: no state of the core (rule R35). -/
  inputs : List Input
  /-- The response record (spec/30_encoding.md rule R74). In the response cycle it stands on the response channel; in an
  idle core it is the one that the command which the last step completed has delivered. It is gone with the next step
  (notes/assumptions/14). -/
  rsp : Option Response
  /-- All events since the state the run began in, oldest first (spec/00_scope.md rule R12). -/
  trace : List Event
deriving DecidableEq, Repr

/-- The reasons a step stops. -/
inductive Fault where
  /-- Raised by `step` in a state with `FATAL` = 1 unless the next input is a hardware reset: a Fatal state has no
  enabled step (spec/60_exceptions.md rule R203). Safe: the hardware does nothing either until its reset. -/
  | fatal (cause : Cause)
deriving DecidableEq, Repr

/-- The reasons a step has no meaning. -/
inductive Refusal where
  /-- Raised by an arm of `exec` whose instruction has no meaning yet. No arm raises it now. Safe: it claims nothing. -/
  | notModelled (mnemonic : String)
deriving DecidableEq, Repr

/-- The state after hardware reset (spec/10_state.md rule R41, spec/70_reset_and_hazards.md rule R220), with the
reference parameters, `idx_in` = 0, no input waiting, nothing said about the Bus Transport, and an empty trace. -/
def State.reset : State where
  addr := Addr.zero
  tLsb := 0x00
  tMsb := 0x00
  th := thDefault
  tl := tlDefault
  cfg := Params.reference.cfg9
  par := true
  auto := false
  conv := .idle
  fatal := false
  cause := .none
  tmr := 0
  seq := .idle
  idx := 0
  params := Params.reference
  bus := Bus.unknown
  inputs := []
  rsp := none
  trace := []

end Sys2Proof.Machine
end

