-- ==== Sys2Proof/Machine/Flags.lean ====
section
/-!
DEFINITION. The computed flags and codes: the Validation Outcome of an address (spec/40_address_validator.md rule R100)
and the validity gate (rule R103), the parasite-power flag (spec/42_power_mode.md rule R130), the hold bit of a write
(spec/20_memory.md rule R57), and the codes of the outcome, `CONV` and `CAUSE` that stand on ports.
-/

namespace Sys2Proof.Machine

/-- The model code is one of the three supported ones. -/
def supportedModel (p : Params) (model : Byte) : Bool :=
  model == p.modelA || model == p.modelB || model == p.modelC

/-- `VALIDATE(a)`: the CRC check comes first (spec/40_address_validator.md rules R100 and R101). -/
def validate (p : Params) (a : Addr) : Validation :=
  if p.crc8.apply a.body ≠ a.b7 then .invalidCrc
  else if supportedModel p a.b0 then .good
  else .invalidModel

/-- The numbering of spec/30_encoding.md rule R75. -/
def Validation.code : Validation → BitVec 2
  | .good => 0
  | .invalidCrc => 1
  | .invalidModel => 2

/-- `VALIDATE(ADDR)`, computed on demand (spec/10_state.md rule R34). -/
def outcome (s : State) : Validation := validate s.params s.addr

/-- The validity gate is open (spec/40_address_validator.md rule R103). -/
def good (s : State) : Bool := outcome s == .good

/-- `code(VALIDATE(ADDR))`, the field `rsp_st` (spec/30_encoding.md rule R74). -/
def status (s : State) : BitVec 2 := (outcome s).code

/-- The parasite flag the power-supply bit gives: a high bit means externally powered (spec/42_power_mode.md rule
R130). -/
def parOfBit (b : Bool) : Bool := !b

/-- The byte a `BusWrite` sends (spec/30_encoding.md rule R77, spec/41_scratchpad.md rule R113). -/
def wireByte (s : State) : WireItem → Byte
  | .readScratch => s.params.cmdReadScratch
  | .writeScratch => s.params.cmdWriteScratch
  | .copyScratch => s.params.cmdCopyScratch
  | .startConvo => s.params.cmdStartConvo
  | .readPowerSupply => s.params.cmdReadPowerSupply
  | .highAlarm => s.th
  | .lowAlarm => s.tl
  | .configuration => s.cfg

/-- The hold bit of a `BusWrite`: `PAR` for COPYSCRATCH and STARTCONVO, 0 for every other byte (spec/20_memory.md rule
R57). -/
def holdBit (s : State) : WireItem → Bool
  | .copyScratch => s.par
  | .startConvo => s.par
  | .readScratch => false
  | .writeScratch => false
  | .readPowerSupply => false
  | .highAlarm => false
  | .lowAlarm => false
  | .configuration => false

/-- The encoding of `CONV` (spec/10_state.md rule R26). -/
def Conv.code : Conv → BitVec 2
  | .idle => 0
  | .requested => 1
  | .ready => 2

/-- The encoding of `CAUSE` (spec/60_exceptions.md rule R201). -/
def Cause.code : Cause → BitVec 2
  | .none => 0
  | .cfgUnrecognized => 1
  | .modelNoDecode => 2

end Sys2Proof.Machine
end

