-- ==== Sys2Proof/Machine/Operands.lean ====
section
/-!
DEFINITION. The two operands and the mappings they go through: resolution levels, configuration patterns and conversion
delays (spec/10_state.md rule R31, spec/43_conversion.md rules R140 and R142), and the clamp of a scratchpad read
(spec/41_scratchpad.md rule R110).
-/

namespace Sys2Proof.Machine

/-- `level_of_cfg(c)`: the level whose pattern is the whole byte `c`, if there is one (rule R31: no masking). -/
def levelOfCfg (p : Params) (c : Byte) : Option Nat :=
  if c = p.cfg9 then some 9
  else if c = p.cfg10 then some 10
  else if c = p.cfg11 then some 11
  else if c = p.cfg12 then some 12
  else none

/-- `cfg_of_level(r)`: the pattern of the level `r`, that of 12 for every other integer (rule R31). -/
def cfgOfLevel (p : Params) (level : Nat) : Byte :=
  match level with
  | 9 => p.cfg9
  | 10 => p.cfg10
  | 11 => p.cfg11
  | _ => p.cfg12

/-- `delay_of_level(r)` in milliseconds, 750 for every other integer (spec/43_conversion.md rule R140). -/
def delayOfLevel (level : Int) : Nat :=
  match level with
  | 9 => 94
  | 10 => 188
  | 11 => 375
  | 12 => 750
  | _ => 750

/-- `delay_of_cfg(c)`: the delay of the byte's level, 750 when it has none (spec/43_conversion.md rule R142). -/
def delayOfCfg (p : Params) (c : Byte) : Nat :=
  match levelOfCfg p c with
  | some level => delayOfLevel level
  | none => 750

/-- The number of bytes `M_SPREAD(n)` reads (spec/41_scratchpad.md rule R110). -/
def clampRead (n : Nat) : Nat := min n 8

end Sys2Proof.Machine
end

