-- ==== Sys2Proof/Machine/Ops.lean ====
section
/-!
DEFINITION. The named operations every command is made of: drawing an answer of the Bus Transport, the bus primitives of
spec/00_scope.md rule R12, the delay, the writes of registers, the response, `raise Fatal` (the one exception of this
hardware, spec/60_exceptions.md rule R203), and hardware reset (the one way back from it, rule R204).
-/

namespace Sys2Proof.Machine

/-! ### The Bus Transport as an oracle -/

/-- The k-th answer still to come: the script's, or the free one of that number (spec/93_implementation_defined.md U6). -/
def Script.nth {α : Type} (free : Nat → α) (c : Script α) (k : Nat) : α := c.queue.getD k (free (c.used + k))

/-- The answers that follow the next `n`. -/
def Script.drop {α : Type} (c : Script α) (n : Nat) : Script α := ⟨c.queue.drop n, c.used + n⟩

/-- The k-th byte that `BusReadByte()` is going to answer. -/
def Bus.byte (b : Bus) (k : Nat) : Byte := b.bytes.nth Config.freeByte k

/-- The next bit that `BusReadBit()` is going to answer. -/
def Bus.bit (b : Bus) : Bool := b.bits.nth Config.freeBit 0

/-- The candidates of the enumeration that the next `EnumReset()` begins. -/
def Bus.session (b : Bus) : List Addr := b.sessions.nth Config.freeCandidates 0

/-- The transport's reply to a request, and the answers that follow it (spec/30_encoding.md rule R78). An enumeration
gives a finite list of candidates, after which `found` = 0 (spec/46_session.md rule R194). -/
def Bus.answer (b : Bus) : Request → Reply × Bus
  | .busReset => ({ rbit := b.presence.nth Config.freePresence 0 }, { b with presence := b.presence.drop 1 })
  | .enumReset => ({}, { b with candidates := b.session, sessions := b.sessions.drop 1 })
  | .enumNext =>
    match b.candidates with
    | [] => ({}, b)
    | a :: rest => ({ found := true, raddr := a }, { b with candidates := rest })
  | .select _ => ({}, b)
  | .skip => ({}, b)
  | .write _ _ => ({}, b)
  | .readByte => ({ rdata := b.byte 0 }, { b with bytes := b.bytes.drop 1 })
  | .readBit => ({ rbit := b.bit }, { b with bits := b.bits.drop 1 })

/-- The event a request and its reply leave in the trace (spec/00_scope.md rule R12). -/
def eventOf (q : Request) (r : Reply) : Event :=
  match q with
  | .busReset => .reset
  | .enumReset => .enumReset
  | .enumNext => .enumNext (if r.found then some r.raddr else none)
  | .select a => .select a
  | .skip => .skip
  | .write b hold => .write b hold
  | .readByte => .readByte r.rdata
  | .readBit => .readBit r.rbit

/-- One event goes onto the trace. -/
def emit (e : Event) (s : State) : State := { s with trace := s.trace ++ [e] }

/-- One request of the transport port and its answer: one bus event, complete before the next step begins
(spec/20_memory.md rules R52 and R56). -/
def transact (q : Request) (s : State) : Reply × State :=
  let answered := s.bus.answer q
  (answered.1, emit (eventOf q answered.1) { s with bus := answered.2 })

/-! ### The bus primitives (spec/00_scope.md rule R12) -/

/-- `BusReset()`. The presence bit it returns is dropped (spec/20_memory.md rule R58). -/
def busReset (s : State) : State := (transact .busReset s).2

/-- `EnumReset()`. -/
def enumReset (s : State) : State := (transact .enumReset s).2

/-- `EnumNext()`: the candidate found, if `found` = 1. The buffer is not used when `found` = 0 (spec/46_session.md rule
R193). -/
def enumNext (s : State) : Option Addr × State :=
  let answered := transact .enumNext s
  (if answered.1.found then some answered.1.raddr else none, answered.2)

/-- `BusSelect(ADDR)`. -/
def busSelect (s : State) : State := (transact (.select s.addr) s).2

/-- `BusSkip()`. -/
def busSkip (s : State) : State := (transact .skip s).2

/-- `BusWrite(b, hold)` of an item, with the hold bit of spec/20_memory.md rule R57. -/
def busWrite (item : WireItem) (s : State) : State := (transact (.write (wireByte s item) (holdBit s item)) s).2

/-- `BusReadByte()`. -/
def busReadByte (s : State) : Byte × State :=
  let answered := transact .readByte s
  (answered.1.rdata, answered.2)

/-- `BusReadBit()`. -/
def busReadBit (s : State) : Bool × State :=
  let answered := transact .readBit s
  (answered.1.rbit, answered.2)

/-! ### The delay timer (spec/10_state.md rule R29) -/

/-- `Delay(ms)` begins: its event, and `TMR` loaded with `ms` + 1. That the event enters the trace when the wait begins,
so that a delay which a hardware reset cuts short stands in the trace, is the model's choice (DESIGN CHOICE,
notes/assumptions/21): rules R141 and R220 do not say. -/
def loadTimer (ms : Nat) (s : State) : State := emit (.delay ms) { s with tmr := BitVec.ofNat 10 (ms + 1) }

/-- One pulse of `tick_1ms`: `TMR` goes down by one while it is not zero. -/
def tick (s : State) : State := { s with tmr := if s.tmr = 0 then 0 else s.tmr - 1 }

/-- The wait runs until `TMR` is zero. Nothing cancels it (spec/43_conversion.md rule R141). -/
def timerExpires (s : State) : State := { s with tmr := 0 }

/-- `Delay(ms)`, the blocking sleep (spec/43_conversion.md rule R141). -/
def delay (ms : Nat) (s : State) : State := timerExpires (loadTimer ms s)

/-! ### Register writes -/

/-- `SP[k] <- b`: a byte of a position past 4 is dropped (spec/41_scratchpad.md rule R110). -/
def setSp (k : Nat) (b : Byte) (s : State) : State :=
  match k with
  | 0 => { s with tLsb := b }
  | 1 => { s with tMsb := b }
  | 2 => { s with th := b }
  | 3 => { s with tl := b }
  | 4 => { s with cfg := b }
  | _ => s

/-- `ADDR <- a`. -/
def setAddr (a : Addr) (s : State) : State := { s with addr := a }

/-- `CFG <- c`. -/
def setCfg (c : Byte) (s : State) : State := { s with cfg := c }

/-- `PAR <- b`. -/
def setPar (b : Bool) (s : State) : State := { s with par := b }

/-- `AUTO <- b`. -/
def setAuto (b : Bool) (s : State) : State := { s with auto := b }

/-- `CONV <- c`. -/
def setConv (c : Conv) (s : State) : State := { s with conv := c }

/-- The defaults of the Scratchpad Image (spec/10_state.md rule R22). -/
def loadImageDefaults (s : State) : State :=
  { s with tLsb := 0x00, tMsb := 0x00, th := thDefault, tl := tlDefault, cfg := s.params.cfg9, par := true }

/-! ### The end of a command -/

/-- `respond(err, st, val, addr)` (spec/30_encoding.md rule R74). -/
def respond (err : Bool) (st : BitVec 2) (val : BitVec 24) (addr : BitVec 64) (s : State) : State :=
  { s with rsp := some ⟨err, st, val, addr⟩ }

/-- The answer to an illegal command word (spec/30_encoding.md rule R76). -/
def respondIllegal (s : State) : State := respond true 0 0 0 s

/-- `raise Fatal(c)`: `FATAL` and `CAUSE` are written, the command ends without a response, and all that was done before
stays done (spec/60_exceptions.md rule R203). -/
def raiseFatal (c : Cause) (s : State) : State := { s with fatal := true, cause := c, rsp := none }

/-- Hardware reset with the strap input `idx_in`, of which the core has `IDX_W` wires: the one way out of Fatal
(spec/10_state.md rule R41, spec/60_exceptions.md rule R204, spec/70_reset_and_hazards.md rule R220). It performs no bus
event and no delay, and what is behind the Bus Transport is not reset (rule R221). -/
def hardwareReset (idxIn : Nat) (s : State) : State :=
  { loadImageDefaults s with
    addr := Addr.zero
    auto := false
    conv := .idle
    fatal := false
    cause := .none
    tmr := 0
    seq := .idle
    idx := idxIn % 2 ^ s.params.idxW
    rsp := none }

end Sys2Proof.Machine
end

