-- ==== Sys2Proof/Machine/AddressValidator.lean ====
section
/-!
DEFINITION. The commands of the Address Validator: ISVALID and GETADDR (spec/40_address_validator.md). The function
VALIDATE itself stands in Sys2Proof/Machine/Flags.lean.
-/

namespace Sys2Proof.Machine

/-- ISVALID (spec/40_address_validator.md rule R104). -/
def execIsvalid (s : State) : Host.Outcome State Fault Refusal :=
  .next (respond false (status s) 0 0 s)

/-- GETADDR (spec/40_address_validator.md rule R105): not gated. -/
def execGetaddr (s : State) : Host.Outcome State Fault Refusal :=
  .next (respond false (status s) 0 s.addr.toBits s)

end Sys2Proof.Machine
end

