-- ==== Sys2Proof/Machine/Scratchpad.lean ====
section
/-!
DEFINITION. The scratchpad state machine: the framing sequences `M_SPREAD(n)` and `M_SPWRITE`, and the diagnostic
commands SPRD and SPWR (spec/41_scratchpad.md).
-/

namespace Sys2Proof.Machine

/-- `m` turns of the read loop of rule R110, the first of them at position `k`. -/
def readBytes : Nat → Nat → State → State
  | 0, _, s => s
  | m + 1, k, s =>
    let read := busReadByte s
    readBytes m (k + 1) (setSp k read.1 read.2)

/-- The framing of `M_SPREAD(n)` behind its gate (spec/41_scratchpad.md rule R110). -/
def spreadFrame (n : Nat) (s : State) : State :=
  busReset (readBytes (clampRead n) 0 (busWrite .readScratch (busSelect (busReset s))))

/-- `M_SPREAD(n)` (spec/41_scratchpad.md rules R110 and R111). -/
def spread (n : Nat) (s : State) : State := if good s then spreadFrame n s else s

/-- `if PAR == 1 then Delay(10)` (spec/41_scratchpad.md rule R113). -/
def settle (s : State) : State := if s.par then delay 10 s else s

/-- The three data bytes of a scratchpad write, in their order (spec/41_scratchpad.md rules R113 and R118). -/
def writeData (s : State) : State := busWrite .configuration (busWrite .lowAlarm (busWrite .highAlarm s))

/-- The framing of `M_SPWRITE` behind its gate. No select stands before COPYSCRATCH (spec/41_scratchpad.md rules R113
and R115). -/
def spwriteFrame (s : State) : State :=
  let sent := busReset (writeData (busWrite .writeScratch (busSelect (busReset s))))
  busReset (settle (busWrite .copyScratch sent))

/-- `M_SPWRITE` (spec/41_scratchpad.md rules R113 and R114). -/
def spwrite (s : State) : State := if good s then spwriteFrame s else s

/-- SPRD n (spec/41_scratchpad.md rule R116). -/
def execSprd (n : Nat) (s : State) : Host.Outcome State Fault Refusal :=
  let st := status s
  .next (respond false st 0 0 (spread n s))

/-- SPWR (spec/41_scratchpad.md rule R117). -/
def execSpwr (s : State) : Host.Outcome State Fault Refusal :=
  let st := status s
  .next (respond false st 0 0 (spwrite s))

end Sys2Proof.Machine
end

