-- ==== Sys2Proof/Machine/Resolution.lean ====
section
/-!
DEFINITION. The resolution manager: the commands GETRES and SETRES (spec/45_resolution.md).
-/

namespace Sys2Proof.Machine

/-- The end of GETRES: the level of the cached byte, or Fatal when it has none (spec/45_resolution.md rules R181 and
R182). -/
def answerLevel (s : State) : State :=
  match levelOfCfg s.params s.cfg with
  | some level => respond false (status s) (BitVec.ofNat 24 level) 0 s
  | none => raiseFatal .cfgUnrecognized s

/-- GETRES (spec/45_resolution.md rule R181). -/
def execGetres (s : State) : Host.Outcome State Fault Refusal :=
  .next (answerLevel (spread s.params.nFull s))

/-- `CFG <- cfg_of_level(level)` (spec/45_resolution.md rule R183). -/
def setLevel (level : Nat) (s : State) : State := setCfg (cfgOfLevel s.params level) s

/-- The steps of SETRES behind its gate: the read before the write is mandatory (spec/45_resolution.md rules R183 and
R184). -/
def setresFrame (level : Nat) (s : State) : State :=
  spwrite (setLevel level (spread s.params.nFull s))

/-- The end of SETRES: the level written, or zero when the gate is closed (spec/45_resolution.md rule R183). The byte
written is one of the four patterns, so it has a level. -/
def answerWritten (s : State) : State :=
  if good s then respond false 0 (BitVec.ofNat 24 ((levelOfCfg s.params s.cfg).getD 0)) 0 s
  else respond false (status s) 0 0 s

/-- SETRES level (spec/45_resolution.md rule R183). -/
def execSetres (level : Nat) (s : State) : Host.Outcome State Fault Refusal :=
  .next (answerWritten (if good s then setresFrame level s else s))

end Sys2Proof.Machine
end

