-- ==== Sys2Proof/Machine/PowerMode.lean ====
section
/-!
DEFINITION. The power mode detector: the sequence `M_PWRDETECT` and the command ISPARA (spec/42_power_mode.md).
-/

namespace Sys2Proof.Machine

/-- The framing of `M_PWRDETECT` behind its gate: no bus reset follows the bit (spec/42_power_mode.md rule R130). -/
def pwrDetectFrame (s : State) : State :=
  let read := busReadBit (busWrite .readPowerSupply (busSelect (busReset s)))
  setPar (parOfBit read.1) read.2

/-- `M_PWRDETECT` (spec/42_power_mode.md rules R130 and R131). -/
def pwrDetect (s : State) : State := if good s then pwrDetectFrame s else s

/-- ISPARA: the cached flag, with no bus event (spec/42_power_mode.md rule R133). -/
def execIspara (s : State) : Host.Outcome State Fault Refusal :=
  .next (respond false (status s) (BitVec.ofNat 24 s.par.toNat) 0 s)

end Sys2Proof.Machine
end

