-- ==== Sys2Proof/Machine/Session.lean ====
section
/-!
DEFINITION. The session commands BEGIN and RESET, and device discovery (spec/46_session.md).
-/

namespace Sys2Proof.Machine

/-- Step 1 of RESET, "before any device contact" (spec/46_session.md rule R192). -/
def loadDefaults (s : State) : State := setAddr Addr.zero (setConv .idle (loadImageDefaults s))

/-- The discovery loop of rule R192 with at most `turns` turns, `count` valid devices having been seen: candidates that
are not Good are skipped and not counted (spec/46_session.md rule R193). -/
def discoverLoop : Nat → Nat → State → State
  | 0, _, s => s
  | turns + 1, count, s =>
    match enumNext s with
    | (none, t) => t
    | (some a, t) =>
      if validate t.params a = .good then
        if count = t.idx then setAddr a t else discoverLoop turns (count + 1) t
      else discoverLoop turns count t

/-- Step 2 of RESET (spec/46_session.md rules R192 to R194): the transport gives finitely many candidates, so one turn
more than it has candidates is enough. -/
def discover (s : State) : State :=
  let begun := enumReset s
  discoverLoop (begun.bus.candidates.length + 1) 0 begun

/-- The body of RESET (spec/46_session.md rule R192). -/
def resetBody (s : State) : State :=
  let read := spread s.params.nFull (pwrDetect (discover (loadDefaults s)))
  respond false (status read) 0 0 read

/-- BEGIN (spec/46_session.md rule R190). -/
def execBegin (s : State) : Host.Outcome State Fault Refusal := .next (resetBody (setAuto true s))

/-- RESET (spec/46_session.md rule R192). -/
def execReset (s : State) : Host.Outcome State Fault Refusal := .next (resetBody s)

end Sys2Proof.Machine
end

