-- ==== Sys2Proof/Machine/Conversion.lean ====
section
/-!
DEFINITION. The conversion controller: the sequence `M_CONVSTART` and the broadcast-mode commands REQBC and WAITCV
(spec/43_conversion.md). The delay table stands in Sys2Proof/Machine/Operands.lean, `Delay` in Sys2Proof/Machine/Ops.lean.
-/

namespace Sys2Proof.Machine

/-- `Delay(delay_of_cfg(CFG))`: the delay of the cached byte (spec/43_conversion.md rule R142). -/
def convDelay (s : State) : State := delay (delayOfCfg s.params s.cfg) s

/-- The steps of `M_CONVSTART` behind its gate (spec/43_conversion.md rule R145). -/
def convStartFrame (s : State) : State :=
  setConv .ready (convDelay (setConv .requested (busWrite .startConvo (busSelect (busReset s)))))

/-- `M_CONVSTART` (spec/43_conversion.md rule R145). -/
def convStart (s : State) : State := if good s then convStartFrame s else s

/-- REQBC: not gated (spec/43_conversion.md rule R150). -/
def execReqbc (s : State) : Host.Outcome State Fault Refusal :=
  let asked := setConv .requested (busWrite .startConvo (busSkip (busReset s)))
  .next (respond false (status asked) 0 0 asked)

/-- WAITCV: not gated (spec/43_conversion.md rule R151). -/
def execWaitcv (s : State) : Host.Outcome State Fault Refusal :=
  let waited := setConv .ready (convDelay s)
  .next (respond false (status waited) 0 0 waited)

end Sys2Proof.Machine
end

