-- ==== Sys2Proof/Machine/Temperature.lean ====
section
/-!
DEFINITION. The fixed-point temperature scaler: `DECODE`, the Fahrenheit transform, the temperature-read path, and the
commands GETTC and GETTF (spec/44_temperature.md).
-/

namespace Sys2Proof.Machine

/-- What `DECODE` gives: a count of 1/16 degree Celsius, or the Fatal it raises (spec/44_temperature.md rules R162 and
R168). -/
inductive Decoded where
  | value (c16 : Int)
  | fatal (c : Cause)
deriving DecidableEq, Repr

/-- `asr(v, k) = floor(v / 2^k)` (spec/00_scope.md rule R11, spec/44_temperature.md rule R167). -/
def asr (v : Int) (k : Nat) : Int := Int.fdiv v (2 ^ k)

/-- `raw = s16({T_MSB, T_LSB})` (spec/44_temperature.md rule R161). -/
def rawReading (msb lsb : Byte) : Int := (msb ++ lsb).toInt

/-- `DECODE(model, cfg, raw)` (spec/44_temperature.md rule R162). -/
def decodeTemp (p : Params) (model cfg : Byte) (raw : Int) : Decoded :=
  if model = p.modelB then .value (8 * raw)
  else if model = p.modelA ∨ model = p.modelC then
    match levelOfCfg p cfg with
    | some 12 => .value raw
    | some 11 => .value (2 * asr raw 1)
    | some 10 => .value (4 * asr raw 2)
    | some 9 => .value (8 * asr raw 3)
    | _ => .fatal .cfgUnrecognized
  else .fatal .modelNoDecode

/-- `TOF(C16)`, in units of 1/80 degree Fahrenheit (spec/44_temperature.md rule R165). -/
def toFahrenheit (c16 : Int) : Int := 9 * c16 + 2560

/-- The steps of `M_TEMPREAD` behind its gate and before its decoding (spec/44_temperature.md rule R163). -/
def tempReadFrame (s : State) : State :=
  setConv .idle (spread 2 (if s.auto then convStart s else s))

/-- `M_TEMPREAD` up to its decoding (spec/44_temperature.md rule R163). -/
def tempRead (s : State) : State := if good s then tempReadFrame s else s

/-- `DECODE(ADDR[0], CFG, raw)` on the registers (spec/44_temperature.md rule R163). -/
def decodeNow (s : State) : Decoded := decodeTemp s.params s.addr.b0 s.cfg (rawReading s.tMsb s.tLsb)

/-- The end of GETTC and of GETTF: the sentinel when the gate is closed, else the decoded value in the command's unit or
Fatal (spec/44_temperature.md rules R164 and R166). -/
def answerTemp (unit : Int → Int) (s : State) : State :=
  if good s then
    match decodeNow s with
    | .value c16 => respond false 0 (BitVec.ofInt 24 (unit c16)) 0 s
    | .fatal c => raiseFatal c s
  else respond false (status s) s.params.sentinel 0 s

/-- The end of GETTC: counts of 1/16 degree Celsius (spec/44_temperature.md rule R164). -/
def answerCelsius (s : State) : State := answerTemp id s

/-- The end of GETTF: counts of 1/80 degree Fahrenheit (spec/44_temperature.md rule R166). -/
def answerFahrenheit (s : State) : State := answerTemp toFahrenheit s

/-- GETTC (spec/44_temperature.md rule R164). -/
def execGettc (s : State) : Host.Outcome State Fault Refusal :=
  .next (answerCelsius (tempRead s))

/-- GETTF (spec/44_temperature.md rule R166). -/
def execGettf (s : State) : Host.Outcome State Fault Refusal :=
  .next (answerFahrenheit (tempRead s))

end Sys2Proof.Machine
end

