-- ==== Sys2Proof/Machine/Dispatch.lean ====
section
/-!
DEFINITION. Which meaning each accepted command has: one arm per constructor of Instr.
-/

namespace Sys2Proof.Machine

/-- The meaning of an accepted command, run to its end (spec/00_scope.md rule R13). Whether the core accepts it is the
step's question (spec/30_encoding.md rule R70). -/
def exec (i : Instr) (s : State) : Host.Outcome State Fault Refusal :=
  match i with
  | .begin => Sys2Proof.Machine.execBegin s
  | .reset => Sys2Proof.Machine.execReset s
  | .isvalid => Sys2Proof.Machine.execIsvalid s
  | .gettc => Sys2Proof.Machine.execGettc s
  | .gettf => Sys2Proof.Machine.execGettf s
  | .ispara => Sys2Proof.Machine.execIspara s
  | .getres => Sys2Proof.Machine.execGetres s
  | .setres level => Sys2Proof.Machine.execSetres level s
  | .reqbc => Sys2Proof.Machine.execReqbc s
  | .waitcv => Sys2Proof.Machine.execWaitcv s
  | .getaddr => Sys2Proof.Machine.execGetaddr s
  | .sprd n => Sys2Proof.Machine.execSprd n s
  | .spwr => Sys2Proof.Machine.execSpwr s

end Sys2Proof.Machine
end

