-- ==== Sys2Proof/WellFormed.lean ====
section
/-!
DEFINITION. Which instructions a command word can hold: the operand of SETRES and of SPRD is an unsigned 8-bit integer
(spec/30_encoding.md rules R71 and R73). Every other command has no operand.
-/

namespace Sys2Proof

/-- The operand field `arg[7:0]` can hold `n` (spec/30_encoding.md rule R73). -/
def fitsArg (n : Nat) : Bool := n < 256

/-- An instruction that has a command word. -/
def Instr.wellFormed : Instr → Bool
  | .setres level => fitsArg level
  | .sprd n => fitsArg n
  | .begin => true
  | .reset => true
  | .isvalid => true
  | .gettc => true
  | .gettf => true
  | .ispara => true
  | .getres => true
  | .reqbc => true
  | .waitcv => true
  | .getaddr => true
  | .spwr => true

end Sys2Proof
end

