-- ==== Sys2Proof/Decode.lean ====
section
/-!
DEFINITION. Decoding a 12-bit command word (spec/30_encoding.md rules R71 to R73 and R76), the encoder, and the opcode
map of rule R72 as a table of match and mask.
-/

namespace Sys2Proof

/-- Why a command word is illegal (spec/30_encoding.md rule R76). -/
inductive IllegalWord where
  /-- The operation code is 0x0, 0xE or 0xF. -/
  | reservedOp (op : BitVec 4)
  /-- The operation has no operand and `arg` is not zero. -/
  | nonzeroArg (op : BitVec 4) (arg : Byte)
deriving DecidableEq, Repr

/-- The field `op`, bits 11 to 8 (rule R71). -/
def opField (w : BitVec 12) : BitVec 4 := w.extractLsb' 8 4

/-- The field `arg`, bits 7 to 0 (rule R71). -/
def argField (w : BitVec 12) : Byte := w.extractLsb' 0 8

/-- A command without an operand: legal when `arg` is zero (rules R73 and R76). -/
def withoutArg (i : Instr) (w : BitVec 12) : Except IllegalWord Instr :=
  if argField w = 0 then .ok i else .error (.nonzeroArg (opField w) (argField w))

/-- The command a word stands for, or the reason it is illegal: total on all 4096 words (rules R72 and R76). -/
def decode (w : BitVec 12) : Except IllegalWord Instr :=
  match (opField w).toNat with
  | 0x1 => withoutArg .begin w
  | 0x2 => withoutArg .reset w
  | 0x3 => withoutArg .isvalid w
  | 0x4 => withoutArg .gettc w
  | 0x5 => withoutArg .gettf w
  | 0x6 => withoutArg .ispara w
  | 0x7 => withoutArg .getres w
  | 0x8 => .ok (.setres (argField w).toNat)
  | 0x9 => withoutArg .reqbc w
  | 0xA => withoutArg .waitcv w
  | 0xB => withoutArg .getaddr w
  | 0xC => .ok (.sprd (argField w).toNat)
  | 0xD => withoutArg .spwr w
  | _ => .error (.reservedOp (opField w))

/-- The operation code of a command (rule R72). -/
def opcodeOf : Instr → BitVec 4
  | .begin => 0x1
  | .reset => 0x2
  | .isvalid => 0x3
  | .gettc => 0x4
  | .gettf => 0x5
  | .ispara => 0x6
  | .getres => 0x7
  | .setres _ => 0x8
  | .reqbc => 0x9
  | .waitcv => 0xA
  | .getaddr => 0xB
  | .sprd _ => 0xC
  | .spwr => 0xD

/-- The operand of a command, zero where it has none (rule R73). -/
def operandOf : Instr → Nat
  | .setres level => level
  | .sprd n => n
  | .begin => 0
  | .reset => 0
  | .isvalid => 0
  | .gettc => 0
  | .gettf => 0
  | .ispara => 0
  | .getres => 0
  | .reqbc => 0
  | .waitcv => 0
  | .getaddr => 0
  | .spwr => 0

/-- The word of a well-formed command: `op` in bits 11 to 8, `arg` in bits 7 to 0 (rules R71 and R80). -/
def encode (i : Instr) : BitVec 12 := opcodeOf i ++ BitVec.ofNat 8 (operandOf i)

/-- One row of the opcode map: a word belongs to it when its bits under `mask` are those of `pattern`. -/
structure OpcodeRow where
  mnemonic : String
  pattern : BitVec 12
  mask : BitVec 12
deriving DecidableEq, Repr

/-- The word belongs to the row. -/
def OpcodeRow.covers (r : OpcodeRow) (w : BitVec 12) : Bool := w &&& r.mask == r.pattern

/-- The opcode map of rule R72, as spec/opcode_table.json gives it. -/
def opcodeMap : List OpcodeRow :=
  [⟨"BEGIN", 0x100, 0xFFF⟩, ⟨"RESET", 0x200, 0xFFF⟩, ⟨"ISVALID", 0x300, 0xFFF⟩, ⟨"GETTC", 0x400, 0xFFF⟩,
   ⟨"GETTF", 0x500, 0xFFF⟩, ⟨"ISPARA", 0x600, 0xFFF⟩, ⟨"GETRES", 0x700, 0xFFF⟩, ⟨"SETRES", 0x800, 0xF00⟩,
   ⟨"REQBC", 0x900, 0xFFF⟩, ⟨"WAITCV", 0xA00, 0xFFF⟩, ⟨"GETADDR", 0xB00, 0xFFF⟩, ⟨"SPRD", 0xC00, 0xF00⟩,
   ⟨"SPWR", 0xD00, 0xFFF⟩]

/-- The instruction the decoder reads from a command word given as a number, bit 0 its least significant bit. The core
has one format of 12 bits (rule R71), so a number that does not fit in 12 bits is no word, whatever `nbits` says. -/
def decodeTableWord (_nbits w : Nat) : Option Instr :=
  if w < 4096 then
    match decode (BitVec.ofNat 12 w) with
    | .ok i => some i
    | .error _ => none
  else none

end Sys2Proof
end

