-- ==== Sys2Proof/Machine/Sequencer.lean ====
section
/-!
DEFINITION. The sequencer: each command as the list of steps that `SEQ` goes through, one bus event, one millisecond of a
delay or one register step at a time (spec/10_state.md rules R29 and R33). It uses the same operations as the meanings of
the commands, which run a whole command at once; that the two agree is a statement, not a definition.
-/

namespace Sys2Proof.Machine

/-- The steps of an accepted command, as its rule writes them. -/
def program (p : Params) : Instr → List Micro
  | .begin => [.beginMode, .loadDefaults, .enumReset, .enumNext 0, .pwrDetect, .spread p.nFull, .finish]
  | .reset => [.loadDefaults, .enumReset, .enumNext 0, .pwrDetect, .spread p.nFull, .finish]
  | .isvalid => [.finish]
  | .gettc => [.tempRead, .finish]
  | .gettf => [.tempRead, .finish]
  | .ispara => [.finish]
  | .getres => [.spread p.nFull, .finish]
  | .setres level => [.setresBody level, .finish]
  | .reqbc => [.busReset, .skip, .write .startConvo, .setConv .requested, .finish]
  | .waitcv => [.convDelay, .setConv .ready, .finish]
  | .getaddr => [.finish]
  | .sprd n => [.spread n, .finish]
  | .spwr => [.spwrite, .finish]

/-- The steps of `M_PWRDETECT` (spec/42_power_mode.md rule R130). -/
def pwrDetectSteps : List Micro := [.busReset, .select, .write .readPowerSupply, .readPower]

/-- The steps of `M_SPREAD(n)` (spec/41_scratchpad.md rule R110). -/
def spreadSteps (n : Nat) : List Micro :=
  [.busReset, .select, .write .readScratch] ++ (List.range (clampRead n)).map .readByte ++ [.busReset]

/-- The steps of `M_SPWRITE` (spec/41_scratchpad.md rule R113). -/
def spwriteSteps : List Micro :=
  [.busReset, .select, .write .writeScratch, .write .highAlarm, .write .lowAlarm, .write .configuration, .busReset,
   .write .copyScratch, .settle, .busReset]

/-- The steps of `M_CONVSTART` (spec/43_conversion.md rule R145). -/
def convStartSteps : List Micro :=
  [.busReset, .select, .write .startConvo, .setConv .requested, .convDelay, .setConv .ready]

/-- The steps of `M_TEMPREAD` before its decoding (spec/44_temperature.md rule R163). -/
def tempReadSteps (auto : Bool) : List Micro :=
  if auto then [.convStart, .spread 2, .setConv .idle] else [.spread 2, .setConv .idle]

/-- The steps of SETRES behind its gate (spec/45_resolution.md rule R183). -/
def setresSteps (p : Params) (level : Nat) : List Micro := [.spread p.nFull, .setCfg level, .spwrite]

/-- A gated sequence's steps stand before the rest when the gate is open, and not at all when it is closed
(spec/40_address_validator.md rule R103). -/
def gated (s : State) (steps rest : List Micro) : List Micro := if good s then steps ++ rest else rest

/-- The end of a command: its response, or Fatal. -/
def finishCommand (cmd : Instr) (s : State) : State :=
  match cmd with
  | .begin => respond false (status s) 0 0 s
  | .reset => respond false (status s) 0 0 s
  | .isvalid => respond false (status s) 0 0 s
  | .gettc => answerCelsius s
  | .gettf => answerFahrenheit s
  | .ispara => respond false (status s) (BitVec.ofNat 24 s.par.toNat) 0 s
  | .getres => answerLevel s
  | .setres _ => answerWritten s
  | .reqbc => respond false (status s) 0 0 s
  | .waitcv => respond false (status s) 0 0 s
  | .getaddr => respond false (status s) 0 s.addr.toBits s
  | .sprd _ => respond false (status s) 0 0 s
  | .spwr => respond false (status s) 0 0 s

/-- One turn of the discovery loop (spec/46_session.md rule R192): the steps that follow it, and the state. -/
def discoverTurn (count : Nat) (rest : List Micro) (s : State) : List Micro × State :=
  match enumNext s with
  | (none, t) => (rest, t)
  | (some a, t) =>
    if validate t.params a = .good then
      if count = t.idx then (rest, setAddr a t) else (.enumNext (count + 1) :: rest, t)
    else (.enumNext count :: rest, t)

/-- One step of the sequence of the command `cmd`: the steps that follow it, and the state. -/
def microStep (cmd : Instr) (m : Micro) (rest : List Micro) (s : State) : List Micro × State :=
  match m with
  | .beginMode => (rest, setAuto true s)
  | .loadDefaults => (rest, loadDefaults s)
  | .enumReset => (rest, enumReset s)
  | .enumNext count => discoverTurn count rest s
  | .pwrDetect => (gated s pwrDetectSteps rest, s)
  | .spread n => (gated s (spreadSteps n) rest, s)
  | .spwrite => (gated s spwriteSteps rest, s)
  | .convStart => (gated s convStartSteps rest, s)
  | .tempRead => (gated s (tempReadSteps s.auto) rest, s)
  | .setresBody level => (gated s (setresSteps s.params level) rest, s)
  | .busReset => (rest, busReset s)
  | .select => (rest, busSelect s)
  | .skip => (rest, busSkip s)
  | .write item => (rest, busWrite item s)
  | .readByte k => (rest, setSp k (busReadByte s).1 (busReadByte s).2)
  | .readPower => (rest, setPar (parOfBit (busReadBit s).1) (busReadBit s).2)
  | .setConv c => (rest, setConv c s)
  | .setCfg level => (rest, setLevel level s)
  | .convDelay => (rest, loadTimer (delayOfCfg s.params s.cfg) s)
  | .settle => (rest, if s.par then loadTimer 10 s else s)
  | .finish => ([], finishCommand cmd s)

/-- `SEQ` after a step that leaves these steps to come. Where there is none the command has ended: in its response cycle
if it delivers a record, in IDLE if it went Fatal (spec/10_state.md rule R33, spec/30_encoding.md rule R70). -/
def seqAfter (cmd : Instr) (steps : List Micro) (rsp : Option Response) : Seq :=
  match steps with
  | [] => if rsp.isSome then .responding else .idle
  | m :: rest => .busy cmd (m :: rest)

/-- The sequencer goes on by one step, or, while `TMR` is not zero, by one millisecond of the delay in progress
(spec/10_state.md rules R29 and R33). The response channel carries a record for the response cycle only, after which the
core is idle again (spec/30_encoding.md rule R70). -/
def advance (s : State) : State :=
  if s.tmr = 0 then
    match s.seq with
    | .idle => { s with rsp := none }
    | .responding => { s with seq := .idle }
    | .busy cmd steps =>
      match steps with
      | [] => { s with rsp := none, seq := .idle }
      | m :: rest =>
        let done := microStep cmd m rest { s with rsp := none }
        { done.2 with seq := seqAfter cmd done.1 done.2.rsp }
  else tick { s with rsp := none }

/-- `k` steps of the sequencer. -/
def advanceBy : Nat → State → State
  | 0, s => s
  | k + 1, s => advanceBy k (advance s)

/-- A command is accepted and its sequence begins (spec/30_encoding.md rule R70). -/
def beginSequence (i : Instr) (s : State) : State := { s with seq := .busy i (program s.params i), rsp := none }

/-- An illegal word is accepted and its answer stands in the response cycle (spec/30_encoding.md rules R70 and R76). -/
def beginIllegalResponse (s : State) : State := { respondIllegal s with seq := .responding }

/-- The transport request that the sequencer is driving, if its next step is one (spec/20_memory.md rule R56). -/
def requestOf (s : State) : Micro → Option Request
  | .enumReset => some .enumReset
  | .enumNext _ => some .enumNext
  | .busReset => some .busReset
  | .select => some (.select s.addr)
  | .skip => some .skip
  | .write item => some (.write (wireByte s item) (holdBit s item))
  | .readByte _ => some .readByte
  | .readPower => some .readBit
  | .beginMode => none
  | .loadDefaults => none
  | .pwrDetect => none
  | .spread _ => none
  | .spwrite => none
  | .convStart => none
  | .tempRead => none
  | .setresBody _ => none
  | .setConv _ => none
  | .setCfg _ => none
  | .convDelay => none
  | .settle => none
  | .finish => none

/-- The request on the transport port now: none while `TMR` runs (spec/43_conversion.md rule R141). -/
def pendingRequest (s : State) : Option Request :=
  if s.tmr = 0 then
    match s.seq with
    | .busy _ (m :: _) => requestOf s m
    | .busy _ [] => none
    | .idle => none
    | .responding => none
  else none

end Sys2Proof.Machine
end

