-- ==== Sys2Proof/Machine/Ports.lean ====
section
/-!
DEFINITION. The ports (spec/30_encoding.md rules R70, R74, R78 and R79): the output ports as functions of the state, and
what the next input does to the core.
-/

namespace Sys2Proof.Machine

/-- `cmd_ready` = 1 exactly when `SEQ` = IDLE and `FATAL` = 0 (spec/30_encoding.md rule R70). -/
def cmdReady (s : State) : Bool := s.seq == .idle && !s.fatal

/-- The request code `bt_op` (spec/30_encoding.md rule R78). -/
def Request.btOp : Request → BitVec 3
  | .busReset => 0
  | .enumReset => 1
  | .enumNext => 2
  | .select _ => 3
  | .skip => 4
  | .write _ _ => 5
  | .readByte => 6
  | .readBit => 7

/-- `bt_data`, used by `BusWrite` only (rule R78). -/
def Request.btData : Request → Byte
  | .write b _ => b
  | .busReset => 0
  | .enumReset => 0
  | .enumNext => 0
  | .select _ => 0
  | .skip => 0
  | .readByte => 0
  | .readBit => 0

/-- `bt_hold`, used by `BusWrite` only (rule R78). -/
def Request.btHold : Request → Bool
  | .write _ hold => hold
  | .busReset => false
  | .enumReset => false
  | .enumNext => false
  | .select _ => false
  | .skip => false
  | .readByte => false
  | .readBit => false

/-- `bt_addr`, used by `BusSelect` only (rule R78). -/
def Request.btAddr : Request → BitVec 64
  | .select a => a.toBits
  | .busReset => 0
  | .enumReset => 0
  | .enumNext => 0
  | .skip => 0
  | .write _ _ => 0
  | .readByte => 0
  | .readBit => 0

/-- The output ports (spec/30_encoding.md rule R79). -/
structure OutPorts where
  cmdReady : Bool
  rspValid : Bool
  rspErr : Bool
  rspSt : BitVec 2
  rspVal : BitVec 24
  rspAddr : BitVec 64
  fatal : Bool
  fatalCause : BitVec 2
  btReq : Bool
  btOp : BitVec 3
  btData : Byte
  btHold : Bool
  btAddr : BitVec 64
deriving DecidableEq, Repr

/-- `rsp_valid`: 1 in the response cycle, when `cmd_ready` is 0 (spec/30_encoding.md rule R70). -/
def rspValid (s : State) : Bool := s.seq == .responding && s.rsp.isSome

/-- The record on the response channel, if there is one. -/
def rspOnPort (s : State) : Option Response := if rspValid s then s.rsp else none

/-- What the output ports carry (rule R79). A field whose request or valid port is 0 carries zero here
(notes/assumptions/11). -/
def outPorts (s : State) : OutPorts where
  cmdReady := cmdReady s
  rspValid := rspValid s
  rspErr := ((rspOnPort s).map Response.err).getD false
  rspSt := ((rspOnPort s).map Response.st).getD 0
  rspVal := ((rspOnPort s).map Response.val).getD 0
  rspAddr := ((rspOnPort s).map Response.addr).getD 0
  fatal := s.fatal
  fatalCause := s.cause.code
  btReq := (pendingRequest s).isSome
  btOp := ((pendingRequest s).map Request.btOp).getD 0
  btData := ((pendingRequest s).map Request.btData).getD 0
  btHold := ((pendingRequest s).map Request.btHold).getD false
  btAddr := ((pendingRequest s).map Request.btAddr).getD 0

/-- What a step does. -/
inductive Action where
  /-- The command `i` is run to its end in `s`. -/
  | run (i : Instr) (s : State)
  /-- The step ends in `s`. -/
  | done (s : State)
  /-- The core has no enabled step. -/
  | stop (f : Fault)
deriving DecidableEq, Repr

/-- The input waiting first is gone by. -/
def dropInput (s : State) : State := { s with inputs := s.inputs.tail }

/-- An idle core takes the input waiting first, and the record of the command before is gone (spec/30_encoding.md rule
R70). -/
def takeInput (s : State) : State := { dropInput s with rsp := none }

/-- An accepted word, run to its end, its response cycle included: a legal one by its meaning, an illegal one by the answer
of spec/30_encoding.md rule R76. -/
def acceptCommand (w : BitVec 12) (s : State) : Action :=
  match decode w with
  | .ok i => .run i (takeInput s)
  | .error _ => .done (respondIllegal (takeInput s))

/-- An accepted word whose sequence is then gone through one step at a time. An illegal one has only its response cycle,
in which `cmd_ready` is 0 (spec/30_encoding.md rules R70 and R76). -/
def acceptStart (w : BitVec 12) (s : State) : Action :=
  match decode w with
  | .ok i => .done (beginSequence i (takeInput s))
  | .error _ => .done (beginIllegalResponse (takeInput s))

/-- In Fatal no step is enabled (spec/60_exceptions.md rule R203). -/
def unlessFatal (s : State) (a : Action) : Action := if s.fatal then .stop (.fatal s.cause) else a

/-- What the next step does. A hardware reset acts in every state (spec/70_reset_and_hazards.md rule R220). While a
command is in progress, its response cycle included, the sequencer goes on, and a word that is presented stays pending
(spec/30_encoding.md rule R70).
An idle core accepts a word, and waits while there is none. -/
def nextAction (s : State) : Action :=
  match s.inputs.head? with
  | some (.hwReset idxIn) => .done (hardwareReset idxIn (takeInput s))
  | some (.command w) => unlessFatal s (if s.seq = .idle then acceptCommand w s else .done (advance s))
  | some (.start w) => unlessFatal s (if s.seq = .idle then acceptStart w s else .done (advance s))
  | some .clock => unlessFatal s (.done (if s.seq = .idle then takeInput s else advance (dropInput s)))
  | none => unlessFatal s (.done (if s.seq = .idle then takeInput s else advance s))

/-- The host presents a word next, and what it was going to do follows. -/
def presentWord (w : BitVec 12) (s : State) : State := { s with inputs := .command w :: s.inputs }

end Sys2Proof.Machine
end

