-- ==== Sys2Proof/Machine/Step.lean ====
section
/-!
DEFINITION. One step of the core, and how an instruction is put where the step takes its next one.
-/

namespace Sys2Proof.Machine

/-- One step: what the next input does to the core (Sys2Proof/Machine/Ports.lean, `nextAction`), an accepted command
being run by its meaning. -/
def step (s : State) : Host.Outcome State Fault Refusal :=
  match nextAction s with
  | .run i t => exec i t
  | .done t => .next t
  | .stop f => .fault f

/-- The host presents the command word `w` next (spec/30_encoding.md rule R70): the core fetches nothing (spec/10_state.md
rule R33), so this is where a step takes its next instruction from. -/
def State.withFetchWord (s : State) (_nbits w : Nat) : State := presentWord (BitVec.ofNat 12 w) s

end Sys2Proof.Machine
end

