-- ==== Sys2Proof/Machine/Assembler.lean ====
section
/-!
DEFINITION. The assembler's lines (spec/30_encoding.md rule R80): a mnemonic, and its operand in decimal or `0x`
hexadecimal where it has one. Text is a list of characters here.
-/

namespace Sys2Proof.Machine

/-- The mnemonic of a command (spec/30_encoding.md rule R72). -/
def mnemonicOf : Instr → List Char
  | .begin => ['B', 'E', 'G', 'I', 'N']
  | .reset => ['R', 'E', 'S', 'E', 'T']
  | .isvalid => ['I', 'S', 'V', 'A', 'L', 'I', 'D']
  | .gettc => ['G', 'E', 'T', 'T', 'C']
  | .gettf => ['G', 'E', 'T', 'T', 'F']
  | .ispara => ['I', 'S', 'P', 'A', 'R', 'A']
  | .getres => ['G', 'E', 'T', 'R', 'E', 'S']
  | .setres _ => ['S', 'E', 'T', 'R', 'E', 'S']
  | .reqbc => ['R', 'E', 'Q', 'B', 'C']
  | .waitcv => ['W', 'A', 'I', 'T', 'C', 'V']
  | .getaddr => ['G', 'E', 'T', 'A', 'D', 'D', 'R']
  | .sprd _ => ['S', 'P', 'R', 'D']
  | .spwr => ['S', 'P', 'W', 'R']

/-- The commands without an operand. -/
def plainCommands : List Instr :=
  [.begin, .reset, .isvalid, .gettc, .gettf, .ispara, .getres, .reqbc, .waitcv, .getaddr, .spwr]

/-- The line of a command, its operand in decimal. -/
def asmLine (i : Instr) : List Char :=
  match i with
  | .setres level => mnemonicOf (.setres level) ++ ' ' :: Nat.toDigits 10 level
  | .sprd n => mnemonicOf (.sprd n) ++ ' ' :: Nat.toDigits 10 n
  | .begin => mnemonicOf .begin
  | .reset => mnemonicOf .reset
  | .isvalid => mnemonicOf .isvalid
  | .gettc => mnemonicOf .gettc
  | .gettf => mnemonicOf .gettf
  | .ispara => mnemonicOf .ispara
  | .getres => mnemonicOf .getres
  | .reqbc => mnemonicOf .reqbc
  | .waitcv => mnemonicOf .waitcv
  | .getaddr => mnemonicOf .getaddr
  | .spwr => mnemonicOf .spwr

/-- The value of a digit, capital and small letters alike. -/
def digitValue (c : Char) : Option Nat :=
  if '0' ≤ c ∧ c ≤ '9' then some (c.toNat - '0'.toNat)
  else if 'a' ≤ c ∧ c ≤ 'f' then some (c.toNat - 'a'.toNat + 10)
  else if 'A' ≤ c ∧ c ≤ 'F' then some (c.toNat - 'A'.toNat + 10)
  else none

/-- One more digit of a number in the base. -/
def appendDigit (base : Nat) (acc : Option Nat) (c : Char) : Option Nat :=
  match acc, digitValue c with
  | some n, some d => if d < base then some (n * base + d) else none
  | _, _ => none

/-- A number in the base: at least one digit and nothing but digits. -/
def parseNumber (base : Nat) (digits : List Char) : Option Nat :=
  if digits = [] then none else digits.foldl (appendDigit base) (some 0)

/-- An operand, in decimal or `0x` hexadecimal. -/
def parseOperand (text : List Char) : Option Nat :=
  match text with
  | '0' :: 'x' :: digits => parseNumber 16 digits
  | digits => parseNumber 10 digits

/-- An operand that fits the field `arg` (spec/30_encoding.md rule R73). -/
def parseArg (text : List Char) : Option Nat := (parseOperand text).filter fitsArg

/-- The command a line stands for: the mnemonic alone, or the mnemonic, one space and the operand. -/
def parseLine (line : List Char) : Option Instr :=
  match line.span (· ≠ ' ') with
  | (m, []) => plainCommands.find? (mnemonicOf · = m)
  | (m, _ :: rest) =>
    if m = mnemonicOf (.setres 0) then (parseArg rest).map .setres
    else if m = mnemonicOf (.sprd 0) then (parseArg rest).map .sprd
    else none

/-- The word of a line: `{op, arg}` (spec/30_encoding.md rule R80). -/
def assembleLine (line : List Char) : Option (BitVec 12) := (parseLine line).map encode

end Sys2Proof.Machine
end

