-- ==== Sys2Proof/Safety.lean ====
section
/-!
DEFINITION. What counts as a well-built core and as a safe run: the constraints the spec puts on the parameters, the
invariant of the machine, and when the host may trust a response.
-/

namespace Sys2Proof

/-- The sequence of bytes with bit `k` of its byte `i` flipped. -/
def flipBit (m : List Byte) (i k : Nat) : List Byte := m.modify i (· ^^^ BitVec.twoPow 8 k)

/-- The CRC-8 function detects every single-bit flip of 7 bytes (spec/00_scope.md rule R9). -/
def Crc8.DetectsFlips (c : Crc8) : Prop :=
  ∀ m : List Byte, m.length = 7 → ∀ i k : Nat, i < 7 → k < 8 → c.apply (flipBit m i k) ≠ c.apply m

/-- The constraints on the parameters (spec/00_scope.md rules R8, R9 and R10). -/
structure Params.WF (p : Params) : Prop where
  /-- The three model codes are pairwise distinct. -/
  models : [p.modelA, p.modelB, p.modelC].Nodup
  /-- The five command bytes are pairwise distinct. -/
  commands : [p.cmdStartConvo, p.cmdCopyScratch, p.cmdReadScratch, p.cmdWriteScratch, p.cmdReadPowerSupply].Nodup
  /-- The four configuration patterns are pairwise distinct. -/
  patterns : [p.cfg9, p.cfg10, p.cfg11, p.cfg12].Nodup
  /-- The CRC-8 function detects every single-bit flip (rule R9). -/
  detects : p.crc8.DetectsFlips
  /-- The all-zero address does not validate as Good (rule R10). -/
  zero : ¬(p.crc8.apply [0, 0, 0, 0, 0, 0, 0] = 0 ∧ (0 = p.modelA ∨ 0 = p.modelB ∨ 0 = p.modelC))
  /-- The sentinel lies outside -55 to +125 degrees Celsius. -/
  sentinel : p.sentinel.toInt < -880 ∨ 2000 < p.sentinel.toInt
  /-- A full read takes 5 to 8 bytes. -/
  fullRead : 5 ≤ p.nFull ∧ p.nFull ≤ 8
  /-- The Bus Position Index has at least one bit. -/
  indexWidth : 1 ≤ p.idxW

namespace Machine

/-- The Scratchpad Image holds its defaults (spec/10_state.md rules R22 and R39). -/
def ImageDefault (s : State) : Prop :=
  s.tLsb = 0x00 ∧ s.tMsb = 0x00 ∧ s.th = 0x7D ∧ s.tl = 0xC9 ∧ s.cfg = s.params.cfg9 ∧ s.par = true

/-- The steps that write the Scratchpad Image with no gate of their own: they stand behind a gate. -/
def Micro.ungated : Micro → Bool
  | .readByte _ => true
  | .readPower => true
  | .setCfg _ => true
  | .beginMode => false
  | .loadDefaults => false
  | .enumReset => false
  | .enumNext _ => false
  | .pwrDetect => false
  | .spread _ => false
  | .spwrite => false
  | .convStart => false
  | .tempRead => false
  | .setresBody _ => false
  | .busReset => false
  | .select => false
  | .skip => false
  | .write _ => false
  | .setConv _ => false
  | .convDelay => false
  | .settle => false
  | .finish => false

/-- A list of steps in which a step that writes the image without a gate of its own stands only while the address is
Good, and in which the defaults of RESET come first or not at all. -/
def guardedSteps (isGood : Bool) : List Micro → Bool
  | .beginMode :: steps => guardedSteps isGood steps
  | .loadDefaults :: steps => steps.all fun m => !m.ungated && m != .loadDefaults
  | steps => steps.all fun m => m != .loadDefaults && (isGood || !m.ungated)

/-- A sequence the sequencer can be in: it ends with the command's last step, and its writes of the image are guarded. -/
def SeqGuarded (s : State) : Prop :=
  match s.seq with
  | .idle => True
  | .responding => True
  | .busy _ steps => steps.getLast? = some .finish ∧ guardedSteps (good s) steps = true

/-- The invariant of the machine, for a core whose parameters meet their constraints. -/
structure MachineInv (s : State) : Prop where
  /-- The parameters meet rules R8 to R10. -/
  params : s.params.WF
  /-- `IDX` is an `IDX_W`-bit integer (spec/10_state.md rule R28). -/
  index : s.idx < 2 ^ s.params.idxW
  /-- `CAUSE` holds a cause exactly when `FATAL` = 1 (rule R27). -/
  cause : s.fatal = true ↔ s.cause ≠ .none
  /-- MODEL_NO_DECODE is never raised (spec/44_temperature.md rule R168). -/
  decoded : s.cause ≠ .modelNoDecode
  /-- `TMR` is at most 751 (spec/10_state.md rule R29). -/
  timer : s.tmr.toNat ≤ 751
  /-- `TMR` = 0 whenever the core is idle (spec/10_state.md rule R40). -/
  idleTimer : s.seq = .idle → s.tmr = 0
  /-- The image holds its defaults while the address is not Good (spec/10_state.md rule R39). -/
  defaults : good s = false → ImageDefault s
  /-- The address is zero while it is not Good: RESET writes no other (spec/46_session.md rule R192). -/
  zeroAddress : good s = false → s.addr = Addr.zero
  /-- The response cycle has a record on its channel and no delay running (spec/30_encoding.md rule R70). -/
  response : s.seq = .responding → s.tmr = 0 ∧ s.fatal = false ∧ s.rsp.isSome = true
  /-- The steps still to come are guarded. -/
  guarded : SeqGuarded s

/-- The core is idle and not Fatal: it accepts a command (spec/30_encoding.md rule R70). -/
def Ready (s : State) : Prop := s.seq = .idle ∧ s.fatal = false

/-- A response whose value the host may rely on (spec/70_reset_and_hazards.md rule R230, H-VALID). -/
def Response.Trusted (r : Response) : Prop := r.err = false ∧ r.st = 0

/-- The address is Good and the cached configuration byte can be decoded: a temperature read does not go Fatal
(spec/44_temperature.md rule R168). -/
def Decodable (s : State) : Prop :=
  good s = true ∧ (s.addr.b0 = s.params.modelB ∨ levelOfCfg s.params s.cfg ≠ none)

end Machine

end Sys2Proof
end

