-- ==== Sys2Proof/Safety/Traces.lean ====
section
/-!
DEFINITION. The traces the spec writes out for each sequence (spec/00_scope.md rule R12), and what a sequence takes of
the Bus Transport's answers: the words the claims are stated in. Nothing of the machine uses them.
-/

namespace Sys2Proof.Machine

/-- The answers that follow `resets` presence bits, `bytes` bytes and `bits` bits. -/
def Bus.skip (b : Bus) (resets bytes bits : Nat) : Bus :=
  { b with presence := b.presence.drop resets, bytes := b.bytes.drop bytes, bits := b.bits.drop bits }

/-- `ReadByte x m`, with the next `m` bytes the transport is going to answer. -/
def readEvents (b : Bus) (m : Nat) : List Event := (List.range m).map fun k => .readByte (b.byte k)

/-- The trace of `M_SPREAD(n)` when the address `a` is Good (spec/41_scratchpad.md rule R110). -/
def spreadTrace (p : Params) (a : Addr) (b : Bus) (n : Nat) : List Event :=
  [.reset, .select a, .write p.cmdReadScratch false] ++ readEvents b (min n 8) ++ [.reset]

/-- The trace of `M_SPWRITE` when the address `a` is Good (spec/41_scratchpad.md rule R113). -/
def spwriteTrace (p : Params) (a : Addr) (th tl cfg : Byte) (par : Bool) : List Event :=
  [.reset, .select a, .write p.cmdWriteScratch false, .write th false, .write tl false, .write cfg false, .reset,
   .write p.cmdCopyScratch par] ++ (if par then [.delay 10] else []) ++ [.reset]

/-- The trace of `M_PWRDETECT` when the address `a` is Good (spec/42_power_mode.md rule R130). -/
def powerTrace (p : Params) (a : Addr) (bit : Bool) : List Event :=
  [.reset, .select a, .write p.cmdReadPowerSupply false, .readBit bit]

/-- The trace of `M_CONVSTART` when the address `a` is Good (spec/43_conversion.md rule R145). -/
def convTrace (p : Params) (a : Addr) (cfg : Byte) (par : Bool) : List Event :=
  [.reset, .select a, .write p.cmdStartConvo par, .delay (delayOfCfg p cfg)]

/-- The trace of `M_TEMPREAD` when the address is Good (spec/44_temperature.md rule R163). -/
def tempTrace (s : State) : List Event :=
  (if s.auto then convTrace s.params s.addr s.cfg s.par else []) ++ spreadTrace s.params s.addr s.bus 2

/-- The image after `M_SPREAD(n)`: its first `n` bytes are the ones answered, the others stay (spec/41_scratchpad.md
rule R112). -/
def imageRead (n : Nat) (s : State) : State :=
  { s with
    tLsb := if 0 < n then s.bus.byte 0 else s.tLsb
    tMsb := if 1 < n then s.bus.byte 1 else s.tMsb
    th := if 2 < n then s.bus.byte 2 else s.th
    tl := if 3 < n then s.bus.byte 3 else s.tl
    cfg := if 4 < n then s.bus.byte 4 else s.cfg }

/-- The state a temperature read leaves before its decoding, the address being Good (spec/44_temperature.md rule R163). -/
def afterTempRead (s : State) : State :=
  { s with
    tLsb := s.bus.byte 0
    tMsb := s.bus.byte 1
    conv := .idle
    tmr := if s.auto then 0 else s.tmr
    bus := s.bus.skip (if s.auto then 3 else 2) 2 0
    trace := s.trace ++ tempTrace s }

/-- The state `M_SPREAD(n)` leaves, the address being Good (spec/41_scratchpad.md rules R110 and R112). -/
def afterSpread (n : Nat) (s : State) : State :=
  { imageRead n s with
    bus := s.bus.skip 2 (min n 8) 0
    trace := s.trace ++ spreadTrace s.params s.addr s.bus n }

/-- The level SETRES writes for the integer `level`: any other than 9 to 12 gives 12 (spec/45_resolution.md rule R183). -/
def normalLevel (level : Nat) : Nat := if 9 ≤ level ∧ level ≤ 12 then level else 12

/-- How many of the candidates are Good: the valid devices of spec/46_session.md rule R193. -/
def countGood (p : Params) (candidates : List Addr) : Nat := candidates.countP fun a => validate p a == .good

/-- The events of an enumeration that found these candidates (spec/46_session.md rule R192). -/
def foundEvents (candidates : List Addr) : List Event := candidates.map fun a => .enumNext (some a)

/-- A session command: BEGIN or RESET. -/
def IsSession (i : Instr) : Prop := i = .begin ∨ i = .reset

/-- The mode flag after a session command: BEGIN sets it, RESET leaves it (spec/46_session.md rules R190 and R192). -/
def autoAfter (i : Instr) (old : Bool) : Bool := if i = .begin then true else old

end Sys2Proof.Machine
end

