-- ==== Sys2Proof/Certificates/Slice0/Obligations.lean ====
section
/-!
DEFINITION. The statements for the provers. Each docstring says which rule of spec/ it formalises. The words the traces
are written in stand in Sys2Proof/Safety/Traces.lean, the invariant in Sys2Proof/Safety.lean.
-/

open Sys2Proof Sys2Proof.Machine

/-! ### Encoding -/

/-- Decoding the encoded word of a well-formed command gives it back (rules R71 to R73). -/
def Obligations.DecodeOfEncodeIsTheCommand : Prop :=
  ∀ i : Instr, i.wellFormed = true → decode (encode i) = .ok i

/-- A word that decodes is the encoded word of the command it decodes to, which is well-formed (rules R71 to R73). -/
def Obligations.EncodeOfDecodedWordIsTheWord : Prop :=
  ∀ (w : BitVec 12) (i : Instr), decode w = .ok i → i.wellFormed = true ∧ encode i = w

/-- The illegal words are those of rule R76, and a core that accepts one changes nothing, performs no event, and answers
with `rsp_err` = 1 and all other fields 0. -/
def Obligations.IllegalWordsAreRefusedWithAnAnswer : Prop :=
  ∀ w : BitVec 12,
    ((∃ e, decode w = .error e) ↔
      (opField w ∈ [0x0, 0xE, 0xF] ∨
        (opField w ∈ [0x1, 0x2, 0x3, 0x4, 0x5, 0x6, 0x7, 0x9, 0xA, 0xB, 0xD] ∧ argField w ≠ 0))) ∧
    (∀ (s : State) (rest : List Input), Ready s → s.inputs = .command w :: rest → (∃ e, decode w = .error e) →
      step s = .next { s with inputs := rest, rsp := some ⟨true, 0, 0, 0⟩ })

/-- Every legal word belongs to exactly one row of the opcode map, and an illegal word to none (rules R72 and R76). -/
def Obligations.OpcodeMapCoversEachLegalWordOnce : Prop :=
  ∀ w : BitVec 12,
    ((∃ i, decode w = .ok i) → (opcodeMap.filter fun r => r.covers w).length = 1) ∧
    ((∃ e, decode w = .error e) → (opcodeMap.filter fun r => r.covers w).length = 0)

/-- Words written out from rule R72 decode to the commands they stand for. -/
def Obligations.SampleWordsDecodeAsTheMapSays : Prop :=
  decode 0x100 = .ok .begin ∧ decode 0x300 = .ok .isvalid ∧ decode 0x500 = .ok .gettf ∧ decode 0x600 = .ok .ispara ∧
  decode 0x80B = .ok (.setres 11) ∧ decode 0xA00 = .ok .waitcv ∧ decode 0xCFF = .ok (.sprd 255) ∧
  decode 0xD00 = .ok .spwr

/-- Reading the line of a well-formed command gives the command back, so assembling it gives its word, whether its
operand is written in decimal or in `0x` hexadecimal (rule R80). That hexadecimal digits may be small or capital letters
is the model's choice (notes/assumptions/15). -/
def Obligations.AssemblingALineGivesTheWord : Prop :=
  (∀ i : Instr, i.wellFormed = true → parseLine (asmLine i) = some i ∧ assembleLine (asmLine i) = some (encode i)) ∧
  (∀ (n : Nat) (digits : List Char), n < 256 →
    digits = Nat.toDigits 16 n ∨ digits = (Nat.toDigits 16 n).map Char.toUpper →
    ∀ i : Instr, i = .setres n ∨ i = .sprd n →
      parseLine (mnemonicOf i ++ ' ' :: '0' :: 'x' :: digits) = some i ∧
      assembleLine (mnemonicOf i ++ ' ' :: '0' :: 'x' :: digits) = some (encode i))

/-! ### The step -/

/-- A core that is idle and not Fatal runs the command whose word is presented next: the step is the command's meaning,
at the state with the word taken and the response of the step before gone (rule R70). A word presented to be run one
step at a time begins the command's sequence at that same state. -/
def Obligations.StepRunsTheDecodedCommand : Prop :=
  ∀ (s : State) (w : BitVec 12) (rest : List Input) (i : Instr), Ready s → decode w = .ok i →
    (s.inputs = .command w :: rest → step s = exec i { s with inputs := rest, rsp := none }) ∧
    (s.inputs = .start w :: rest → step s = .next (beginSequence i { s with inputs := rest, rsp := none }))

/-- In Fatal no step is enabled but a hardware reset, which clears `FATAL` and `CAUSE` (rules R203 and R204). -/
def Obligations.FatalIsLeftByHardwareResetOnly : Prop :=
  ∀ s : State, s.fatal = true →
    ((∀ k, s.inputs.head? ≠ some (.hwReset k)) → step s = .fault (.fatal s.cause)) ∧
    (∀ k, s.inputs.head? = some (.hwReset k) → ∃ t, step s = .next t ∧ t.fatal = false ∧ t.cause = .none)

/-- Hardware reset, in every state, a command in progress and Fatal among them, leaves the values of rules R41 and R220:
no event is performed, no response is delivered, and the core accepts a command. That a number given as the strap value
is taken modulo 2^`IDX_W` is the model's reading (notes/assumptions/7), and that the transport's answers and the later
inputs are left as they are is too (notes/assumptions/16). -/
def Obligations.HardwareResetLeavesTheResetValues : Prop :=
  ∀ (s : State) (k : Nat) (rest : List Input), s.inputs = .hwReset k :: rest →
    ∃ t, step s = .next t ∧ cmdReady t = true ∧
      t = { s with
        addr := ⟨0, 0, 0, 0, 0, 0, 0, 0⟩
        tLsb := 0x00
        tMsb := 0x00
        th := 0x7D
        tl := 0xC9
        cfg := s.params.cfg9
        par := true
        auto := false
        conv := .idle
        fatal := false
        cause := .none
        tmr := 0
        seq := .idle
        idx := k % 2 ^ s.params.idxW
        inputs := rest
        rsp := none }

/-- The state after reset, in the model: the values of rule R41, with the reference parameters and `idx_in` = 0, which
are the model's choice (notes/assumptions/1 and 6). -/
def Obligations.ResetStateHasTheResetValues : Prop :=
  State.reset.addr = Addr.zero ∧ State.reset.tLsb = 0x00 ∧ State.reset.tMsb = 0x00 ∧ State.reset.th = 0x7D ∧
  State.reset.tl = 0xC9 ∧ State.reset.cfg = State.reset.params.cfg9 ∧ State.reset.par = true ∧
  State.reset.auto = false ∧ State.reset.conv = .idle ∧ State.reset.fatal = false ∧ State.reset.cause = .none ∧
  State.reset.tmr = 0 ∧ State.reset.seq = .idle ∧ State.reset.idx = 0 ∧ State.reset.trace = []

/-- A step of a core that is not Fatal and accepts no word. In a busy core, its response cycle included, the sequencer goes
on by one step: a word that is presented is not accepted and stays pending (rules R70 and R239), the clock goes by, and
no input is needed. In an idle core with no word presented nothing changes but the response channel. What an input is,
and that such steps take place, is the model's choice (notes/assumptions/5 and 9). -/
def Obligations.StepThatAcceptsNoWord : Prop :=
  ∀ s : State, s.fatal = false →
    (s.seq ≠ .idle →
      cmdReady s = false ∧
      (∀ (w : BitVec 12) (rest : List Input), s.inputs = .command w :: rest ∨ s.inputs = .start w :: rest →
        step s = .next (advance s) ∧ (advance s).inputs = s.inputs) ∧
      (∀ rest : List Input, s.inputs = .clock :: rest →
        step s = .next (advance { s with inputs := rest }) ∧ (advance { s with inputs := rest }).inputs = rest) ∧
      (s.inputs = [] → step s = .next (advance s) ∧ (advance s).inputs = [])) ∧
    (s.seq = .idle →
      (∀ rest : List Input, s.inputs = .clock :: rest → step s = .next { s with inputs := rest, rsp := none }) ∧
      (s.inputs = [] → step s = .next { s with rsp := none }))

/-! ### Invariants and whole-machine rules -/

/-- Every step keeps the invariant of the machine: rules R27, R28, R29, R39, R40 and R168 in one (spec/10_state.md). -/
def Obligations.StepKeepsTheMachineInvariant : Prop :=
  ∀ s t : State, MachineInv s → step s = .next t → MachineInv t

/-- The state after reset, with the reference parameters, which are the model's choice (notes/assumptions/1), meets the
invariant. -/
def Obligations.ResetStateMeetsTheMachineInvariant : Prop := MachineInv State.reset

/-- Every command, however it ends, keeps the image at its defaults while the address is not Good, and an idle core has
`TMR` = 0 and `SEQ` = IDLE after it (rules R39 and R40). -/
def Obligations.CommandKeepsDefaultsOfANotGoodCore : Prop :=
  ∀ (i : Instr) (s : State), s.params.WF → (good s = false → ImageDefault s) → s.seq = .idle → s.tmr = 0 →
    ∃ t, exec i s = .next t ∧ (good t = false → ImageDefault t) ∧ t.seq = .idle ∧ t.tmr = 0

/-- No step writes a parameter, and only a hardware reset writes `IDX`, from its strap (rules R8 and R28). -/
def Obligations.StepKeepsParametersAndIndex : Prop :=
  ∀ s t : State, step s = .next t →
    t.params = s.params ∧
    (t.idx = s.idx ∨ ∃ k, s.inputs.head? = some (.hwReset k) ∧ t.idx = k % 2 ^ s.params.idxW)

/-- Between two session commands the address does not change, hence neither does its Validation Outcome (rule R38). -/
def Obligations.OnlySessionCommandsChangeTheAddress : Prop :=
  ∀ (i : Instr) (s t : State), ¬IsSession i → exec i s = .next t →
    t.addr = s.addr ∧ validate t.params t.addr = validate s.params s.addr

/-- Which commands may change which register: the frame of every command, by register (rules R20 to R30). -/
def Obligations.RegistersHaveOnlyTheirWriters : Prop :=
  ∀ (i : Instr) (s t : State), exec i s = .next t →
    (t.addr ≠ s.addr → IsSession i) ∧
    (t.tLsb ≠ s.tLsb → IsSession i ∨ i = .gettc ∨ i = .gettf ∨ i = .getres ∨ (∃ l, i = .setres l) ∨
      ∃ n, i = .sprd n ∧ 1 ≤ n) ∧
    (t.tMsb ≠ s.tMsb → IsSession i ∨ i = .gettc ∨ i = .gettf ∨ i = .getres ∨ (∃ l, i = .setres l) ∨
      ∃ n, i = .sprd n ∧ 2 ≤ n) ∧
    (t.th ≠ s.th → IsSession i ∨ i = .getres ∨ (∃ l, i = .setres l) ∨ ∃ n, i = .sprd n ∧ 3 ≤ n) ∧
    (t.tl ≠ s.tl → IsSession i ∨ i = .getres ∨ (∃ l, i = .setres l) ∨ ∃ n, i = .sprd n ∧ 4 ≤ n) ∧
    (t.cfg ≠ s.cfg → IsSession i ∨ i = .getres ∨ (∃ l, i = .setres l) ∨ ∃ n, i = .sprd n ∧ 5 ≤ n) ∧
    (t.par ≠ s.par → IsSession i) ∧
    (t.auto ≠ s.auto → i = .begin) ∧
    (t.conv ≠ s.conv → IsSession i ∨ i = .gettc ∨ i = .gettf ∨ i = .reqbc ∨ i = .waitcv) ∧
    (t.fatal ≠ s.fatal → i = .gettc ∨ i = .gettf ∨ i = .getres) ∧
    (t.cause ≠ s.cause → i = .gettc ∨ i = .gettf ∨ i = .getres) ∧
    (t.tmr ≠ s.tmr → t.tmr = 0 ∧ (i = .gettc ∨ i = .gettf ∨ i = .waitcv ∨ i = .spwr ∨ ∃ l, i = .setres l)) ∧
    t.idx = s.idx ∧ t.params = s.params ∧ t.seq = s.seq ∧ t.inputs = s.inputs

/-- Fatal is raised by GETRES, GETTC and GETTF only, with the cause CFG_UNRECOGNIZED, and MODEL_NO_DECODE by none (rules
R201 and R202). -/
def Obligations.OnlyThreeCommandsRaiseFatal : Prop :=
  ∀ (i : Instr) (s : State), s.fatal = false → s.cause = .none →
    ∃ t, exec i s = .next t ∧
      ((t.fatal = false ∧ t.cause = .none) ∨
        (t.fatal = true ∧ t.cause = .cfgUnrecognized ∧ t.rsp = none ∧ (i = .getres ∨ i = .gettc ∨ i = .gettf)))

/-- Every command completes: it answers with exactly one record, not an error, whose `rsp_st` is the Validation Outcome
of the address and whose `rsp_addr` is zero for every command but GETADDR, or it raises Fatal and answers nothing (rules
R70, R74 and R203). -/
def Obligations.EveryCommandAnswersOrGoesFatal : Prop :=
  ∀ (i : Instr) (s : State), ∃ t, exec i s = .next t ∧
    ((t.fatal = s.fatal ∧ t.cause = s.cause ∧ ∃ r, t.rsp = some r ∧ r.err = false ∧
        r.st = (validate t.params t.addr).code ∧ (i ≠ .getaddr → r.addr = 0)) ∨
      (t.fatal = true ∧ t.rsp = none))

/-- A core whose address is not Good never goes Fatal: the gate is tested first (rule R206). -/
def Obligations.NotGoodAddressNeverRaisesFatal : Prop :=
  ∀ (i : Instr) (s : State), MachineInv s → good s = false →
    ∃ t, exec i s = .next t ∧ t.fatal = s.fatal ∧ t.cause = s.cause

/-- The events of a step come after all events before it: no step takes an event back or moves one (rule R59). -/
def Obligations.StepOnlyAppendsToTheTrace : Prop :=
  ∀ s t : State, step s = .next t → s.trace <+: t.trace

/-- A closed gate lets no event through: the gated commands on an address that is not Good perform no bus event and no
delay, take no answer of the transport and change no register of the image (rule R103). -/
def Obligations.ClosedGateLetsNoEventThrough : Prop :=
  ∀ (i : Instr) (s : State), good s = false →
    (i = .gettc ∨ i = .gettf ∨ i = .getres ∨ (∃ l, i = .setres l) ∨ (∃ n, i = .sprd n) ∨ i = .spwr) →
    ∃ t, exec i s = .next t ∧ t.trace = s.trace ∧ t.bus = s.bus ∧ t.tLsb = s.tLsb ∧ t.tMsb = s.tMsb ∧ t.th = s.th ∧
      t.tl = s.tl ∧ t.cfg = s.cfg ∧ t.par = s.par ∧ t.conv = s.conv ∧ t.tmr = s.tmr

/-- `CONV` gates nothing: two runs that differ in `CONV` alone give the same response, the same trace and the same state
but for `CONV` (rules R26 and R149). -/
def Obligations.ConversionStateGatesNothing : Prop :=
  ∀ (i : Instr) (s : State) (c : Conv), ∃ t u,
    exec i s = .next t ∧ exec i { s with conv := c } = .next u ∧ { u with conv := t.conv } = t

/-- No command and no step of a sequence depends on the presence bits that bus resets return: with other bits to come,
all else is the same (rule R58). -/
def Obligations.PresenceBitsAreDiscarded : Prop :=
  ∀ (s : State) (answers : Script Bool),
    (∀ i : Instr, ∃ t u,
      exec i s = .next t ∧ exec i { s with bus := { s.bus with presence := answers } } = .next u ∧
        { u with bus := { u.bus with presence := t.bus.presence } } = t) ∧
    (let u := advance { s with bus := { s.bus with presence := answers } }
     { u with bus := { u.bus with presence := (advance s).bus.presence } } = advance s)

/-! ### The address validator -/

/-- `VALIDATE`: the CRC check first, then the model check, else Good (rules R100 and R101). -/
def Obligations.ValidateTestsTheCrcThenTheModel : Prop :=
  ∀ (p : Params) (a : Addr),
    (p.crc8.apply [a.b0, a.b1, a.b2, a.b3, a.b4, a.b5, a.b6] ≠ a.b7 → validate p a = .invalidCrc) ∧
    (p.crc8.apply [a.b0, a.b1, a.b2, a.b3, a.b4, a.b5, a.b6] = a.b7 →
      (a.b0 ≠ p.modelA ∧ a.b0 ≠ p.modelB ∧ a.b0 ≠ p.modelC → validate p a = .invalidModel) ∧
      (a.b0 = p.modelA ∨ a.b0 = p.modelB ∨ a.b0 = p.modelC → validate p a = .good))

/-- Seven bytes whose first is a supported model code, followed by their CRC-8, are a Good address (rule R106). -/
def Obligations.SyntheticAddressesAreGood : Prop :=
  ∀ (p : Params) (b0 b1 b2 b3 b4 b5 b6 : Byte), b0 = p.modelA ∨ b0 = p.modelB ∨ b0 = p.modelC →
    validate p ⟨b0, b1, b2, b3, b4, b5, b6, p.crc8.apply [b0, b1, b2, b3, b4, b5, b6]⟩ = .good

/-- A Good address with one bit of bytes 0 to 6 flipped and byte 7 kept is InvalidCRC (rule R107). -/
def Obligations.OneFlippedBitIsInvalidCrc : Prop :=
  ∀ (p : Params) (a a' : Addr) (i k : Nat), p.WF → validate p a = .good → i < 7 → k < 8 →
    a'.body = flipBit a.body i k → a'.b7 = a.b7 → validate p a' = .invalidCrc

/-- ISVALID (rule R104). -/
def Obligations.IsvalidAnswersTheOutcome : Prop :=
  decode 0x300 = .ok .isvalid ∧
  ∀ s : State, exec .isvalid s = .next { s with rsp := some ⟨false, (validate s.params s.addr).code, 0, 0⟩ }

/-- GETADDR (rule R105): the address whatever its validity, byte `i` in bits `[8i+7:8i]`. -/
def Obligations.GetaddrAnswersTheAddress : Prop :=
  decode 0xB00 = .ok .getaddr ∧
  ∀ s : State, exec .getaddr s = .next { s with
    rsp := some ⟨false, (validate s.params s.addr).code, 0,
      s.addr.b7 ++ s.addr.b6 ++ s.addr.b5 ++ s.addr.b4 ++ s.addr.b3 ++ s.addr.b2 ++ s.addr.b1 ++ s.addr.b0⟩ }

/-! ### The scratchpad -/

/-- SPRD n, of word 0xC00 + n: on a Good address the framing with min(n, 8) byte reads, the image's first min(n, 5)
bytes being the ones answered and the others kept; on an address that is not Good nothing but the response (rules R110,
R111, R112, R116). -/
def Obligations.SprdReadsTheFirstBytes : Prop :=
  (∀ n : BitVec 8, decode (0xC#4 ++ n) = .ok (.sprd n.toNat)) ∧
  ∀ (n : Nat) (s : State), exec (.sprd n) s = .next
    (if good s = true then
      { s with
        tLsb := if 1 ≤ n then s.bus.byte 0 else s.tLsb
        tMsb := if 2 ≤ n then s.bus.byte 1 else s.tMsb
        th := if 3 ≤ n then s.bus.byte 2 else s.th
        tl := if 4 ≤ n then s.bus.byte 3 else s.tl
        cfg := if 5 ≤ n then s.bus.byte 4 else s.cfg
        bus := s.bus.skip 2 (min n 8) 0
        trace := s.trace ++ spreadTrace s.params s.addr s.bus n
        rsp := some ⟨false, 0, 0, 0⟩ }
    else { s with rsp := some ⟨false, (validate s.params s.addr).code, 0, 0⟩ })

/-- SPWR: on a Good address the write framing with TH, TL and CFG in this order, no select before COPYSCRATCH, the
parasite flag as its hold bit, and the settle delay when it is set; no register changes. On an address that is not Good
nothing but the response (rules R113, R114, R115, R117). -/
def Obligations.SpwrSendsTheAlarmAndConfigurationBytes : Prop :=
  decode 0xD00 = .ok .spwr ∧
  ∀ s : State, exec .spwr s = .next
    (if good s = true then
      { s with
        tmr := if s.par then 0 else s.tmr
        bus := s.bus.skip 3 0 0
        trace := s.trace ++
          [.reset, .select s.addr, .write s.params.cmdWriteScratch false, .write s.th false, .write s.tl false,
           .write s.cfg false, .reset, .write s.params.cmdCopyScratch s.par] ++
          (if s.par then [.delay 10] else []) ++ [.reset]
        rsp := some ⟨false, 0, 0, 0⟩ }
    else { s with rsp := some ⟨false, (validate s.params s.addr).code, 0, 0⟩ })

/-- The round trip of rule R118: if the transport answers positions 2, 3 and 4 of the read with the three bytes just
written, the image's TH, TL and CFG are unchanged by the pair. -/
def Obligations.WriteThenReadKeepsTheWrittenBytes : Prop :=
  ∀ (n : Nat) (s : State), 5 ≤ n → good s = true →
    ∃ t, exec .spwr s = .next t ∧
      (t.bus.byte 2 = s.th → t.bus.byte 3 = s.tl → t.bus.byte 4 = s.cfg →
        ∃ u, exec (.sprd n) t = .next u ∧ u.th = s.th ∧ u.tl = s.tl ∧ u.cfg = s.cfg)

/-! ### Power mode and conversion -/

/-- ISPARA: the cached flag, with no bus event (rule R133). -/
def Obligations.IsparaAnswersTheCachedFlag : Prop :=
  decode 0x600 = .ok .ispara ∧
  ∀ s : State, exec .ispara s = .next { s with
    rsp := some ⟨false, (validate s.params s.addr).code, if s.par then 1 else 0, 0⟩ }

/-- The delay table by level, its default, and its monotonicity (rules R140 and R143). -/
def Obligations.DelayTableIsExactAndMonotonic : Prop :=
  delayOfLevel 9 = 94 ∧ delayOfLevel 10 = 188 ∧ delayOfLevel 11 = 375 ∧ delayOfLevel 12 = 750 ∧
  (∀ r : Int, r < 9 ∨ 12 < r → delayOfLevel r = 750) ∧
  (∀ r₁ r₂ : Int, 9 ≤ r₁ → r₁ ≤ r₂ → r₂ ≤ 12 → delayOfLevel r₁ ≤ delayOfLevel r₂)

/-- The delay of a configuration byte: its pattern's, and 750 for every other byte (rule R142). -/
def Obligations.DelayOfAByteIsThatOfItsPattern : Prop :=
  ∀ p : Params, p.WF →
    delayOfCfg p p.cfg9 = 94 ∧ delayOfCfg p p.cfg10 = 188 ∧ delayOfCfg p p.cfg11 = 375 ∧ delayOfCfg p p.cfg12 = 750 ∧
    ∀ c : Byte, c ≠ p.cfg9 → c ≠ p.cfg10 → c ≠ p.cfg11 → delayOfCfg p c = 750

/-- `TMR` is loaded with `ms` + 1, is not zero after `ms` ticks, and is zero after one more: the wait is at least `ms`
whole milliseconds (rule R29). -/
def Obligations.TimerWaitsAtLeastTheDelay : Prop :=
  ∀ (ms k : Nat) (s : State), ms ≤ 750 →
    (loadTimer ms s).tmr.toNat = ms + 1 ∧
    (k ≤ ms → (tick^[k] (loadTimer ms s)).tmr ≠ 0) ∧
    tick^[ms + 1] (loadTimer ms s) = delay ms s

/-- REQBC: not gated (rule R150). -/
def Obligations.ReqbcStartsAConversionOnEveryDevice : Prop :=
  decode 0x900 = .ok .reqbc ∧
  ∀ s : State, exec .reqbc s = .next { s with
    conv := .requested
    bus := s.bus.skip 1 0 0
    trace := s.trace ++ [.reset, .skip, .write s.params.cmdStartConvo s.par]
    rsp := some ⟨false, (validate s.params s.addr).code, 0, 0⟩ }

/-- WAITCV: not gated, the delay of the cached byte and no bus event (rule R151). -/
def Obligations.WaitcvWaitsTheDelayOfTheCachedByte : Prop :=
  decode 0xA00 = .ok .waitcv ∧
  ∀ s : State, exec .waitcv s = .next { s with
    conv := .ready
    tmr := 0
    trace := s.trace ++ [.delay (delayOfCfg s.params s.cfg)]
    rsp := some ⟨false, (validate s.params s.addr).code, 0, 0⟩ }

/-- `CONV` after each command that writes it, in broadcast mode and in per-device mode alike, and after a hardware reset
(rules R147 and R148). -/
def Obligations.ConversionStateAfterEachCommand : Prop :=
  (∀ s : State,
    (∃ t, exec .reqbc s = .next t ∧ t.conv = .requested) ∧
    (∃ t, exec .waitcv s = .next t ∧ t.conv = .ready) ∧
    (∀ i : Instr, i = .gettc ∨ i = .gettf →
      ∃ t, exec i s = .next t ∧ t.conv = if good s = true then .idle else s.conv)) ∧
  (∀ (i : Instr) (s : State), IsSession i → ∃ t, exec i s = .next t ∧ t.conv = .idle) ∧
  (∀ (k : Nat) (s : State), (hardwareReset k s).conv = .idle)

/-! ### Temperature -/

/-- `DECODE` is the source's table over the real values: `C16` / 16 is the formula of the row, `>>` being floor
division; an unrecognized byte of family A or C and an unknown model raise Fatal (rules R160, R162, R167, R168). -/
def Obligations.DecodeIsTheSourcesTable : Prop :=
  ∀ (p : Params) (raw : Int), p.WF →
    (∀ cfg : Byte, ∃ c, decodeTemp p p.modelB cfg raw = .value c ∧ (c : ℚ) / 16 = raw * 0.5) ∧
    (∀ model : Byte, model = p.modelA ∨ model = p.modelC →
      (∃ c, decodeTemp p model p.cfg12 raw = .value c ∧ (c : ℚ) / 16 = raw * 0.0625) ∧
      (∃ c, decodeTemp p model p.cfg11 raw = .value c ∧ (c : ℚ) / 16 = ⌊(raw : ℚ) / 2⌋ * 0.125) ∧
      (∃ c, decodeTemp p model p.cfg10 raw = .value c ∧ (c : ℚ) / 16 = ⌊(raw : ℚ) / 4⌋ * 0.25) ∧
      (∃ c, decodeTemp p model p.cfg9 raw = .value c ∧ (c : ℚ) / 16 = ⌊(raw : ℚ) / 8⌋ * 0.5) ∧
      (∀ cfg : Byte, cfg ∉ [p.cfg9, p.cfg10, p.cfg11, p.cfg12] →
        decodeTemp p model cfg raw = .fatal .cfgUnrecognized)) ∧
    (∀ model cfg : Byte, model ∉ [p.modelA, p.modelB, p.modelC] → decodeTemp p model cfg raw = .fatal .modelNoDecode)

/-- The bit-level forms of rule R162: level 11 clears bit 0 of the reading, level 10 bits 1:0, level 9 bits 2:0, and
family B shifts it left by 3 in 19 bits. -/
def Obligations.DecodeClearsTheLowBits : Prop :=
  ∀ (p : Params) (model : Byte) (raw : BitVec 16), p.WF → model = p.modelA ∨ model = p.modelC →
    decodeTemp p model p.cfg12 raw.toInt = .value raw.toInt ∧
    decodeTemp p model p.cfg11 raw.toInt = .value (raw &&& 0xFFFE).toInt ∧
    decodeTemp p model p.cfg10 raw.toInt = .value (raw &&& 0xFFFC).toInt ∧
    decodeTemp p model p.cfg9 raw.toInt = .value (raw &&& 0xFFF8).toInt ∧
    (∀ cfg : Byte, decodeTemp p p.modelB cfg raw.toInt = .value ((raw.signExtend 19) <<< 3).toInt)

/-- The ranges of rule R169: a decoded value and its Fahrenheit transform fit `rsp_val` without wrapping, and neither is
the reference sentinel. -/
def Obligations.DecodedValuesFitTheResponse : Prop :=
  ∀ (p : Params) (model cfg msb lsb : Byte) (c : Int), decodeTemp p model cfg (rawReading msb lsb) = .value c →
    (model ≠ p.modelB → -32768 ≤ c ∧ c ≤ 32767) ∧ -262144 ≤ c ∧ c ≤ 262136 ∧
    -2356736 ≤ toFahrenheit c ∧ toFahrenheit c ≤ 2361784 ∧
    (BitVec.ofInt 24 c).toInt = c ∧ (BitVec.ofInt 24 (toFahrenheit c)).toInt = toFahrenheit c ∧
    BitVec.ofInt 24 c ≠ Params.reference.sentinel ∧ BitVec.ofInt 24 (toFahrenheit c) ≠ Params.reference.sentinel

/-- The Fahrenheit transform is F = C × 1.8 + 32 on the real values, with the source's two examples (rule R165). -/
def Obligations.FahrenheitIsTheAffineTransform : Prop :=
  (∀ c16 : Int, toFahrenheit c16 = 9 * c16 + 2560) ∧
  (∀ c16 : Int, (toFahrenheit c16 : ℚ) / 80 = (c16 : ℚ) / 16 * 1.8 + 32) ∧
  toFahrenheit 0 = 2560 ∧ toFahrenheit 1600 = 16960

/-- The source's two decode examples: 0x0190 is 25 degrees on family A at 12 bits and 200 degrees on family B (rule
R170). -/
def Obligations.SourceDecodeExamplesHold : Prop :=
  rawReading 0x01 0x90 = 400 ∧
  ∀ p : Params, p.WF →
    (∃ c, decodeTemp p p.modelA p.cfg12 (rawReading 0x01 0x90) = .value c ∧ c = 400 ∧ (c : ℚ) / 16 = 25.0) ∧
    (∀ cfg : Byte, ∃ c, decodeTemp p p.modelB cfg (rawReading 0x01 0x90) = .value c ∧ c = 3200 ∧ (c : ℚ) / 16 = 200.0)

/-- GETTC: on a Good address the temperature-read path, and then the decoded value in 1/16 degree or Fatal; on an
address that is not Good the sentinel and nothing else (rules R163 and R164). -/
def Obligations.GettcAnswersTheDecodedReading : Prop :=
  decode 0x400 = .ok .gettc ∧
  ∀ s : State, exec .gettc s = .next
    (if good s = true then
      match decodeTemp s.params s.addr.b0 s.cfg (s.bus.byte 1 ++ s.bus.byte 0).toInt with
      | .value c => { afterTempRead s with rsp := some ⟨false, 0, BitVec.ofInt 24 c, 0⟩ }
      | .fatal c => { afterTempRead s with fatal := true, cause := c, rsp := none }
    else { s with rsp := some ⟨false, (validate s.params s.addr).code, s.params.sentinel, 0⟩ })

/-- GETTF: as GETTC with the value in 1/80 degree Fahrenheit, the sentinel not being transformed (rule R166). -/
def Obligations.GettfAnswersTheTransformedReading : Prop :=
  decode 0x500 = .ok .gettf ∧
  ∀ s : State, exec .gettf s = .next
    (if good s = true then
      match decodeTemp s.params s.addr.b0 s.cfg (s.bus.byte 1 ++ s.bus.byte 0).toInt with
      | .value c => { afterTempRead s with rsp := some ⟨false, 0, BitVec.ofInt 24 (9 * c + 2560), 0⟩ }
      | .fatal c => { afterTempRead s with fatal := true, cause := c, rsp := none }
    else { s with rsp := some ⟨false, (validate s.params s.addr).code, s.params.sentinel, 0⟩ })

/-- A temperature read of a decodable core completes with a value and does not go Fatal (rule R168). -/
def Obligations.DecodableCoreAnswersATemperature : Prop :=
  ∀ (i : Instr) (s : State), i = .gettc ∨ i = .gettf → s.params.WF → Decodable s →
    ∃ t r, exec i s = .next t ∧ t.fatal = s.fatal ∧ t.rsp = some r ∧ Response.Trusted r

/-! ### Resolution -/

/-- GETRES: on a Good address a full read, then the level of the byte read, or Fatal when it has none; on an address
that is not Good the level of the cached byte with no event (rule R181). -/
def Obligations.GetresAnswersTheLevelOrGoesFatal : Prop :=
  decode 0x700 = .ok .getres ∧
  ∀ s : State, s.params.WF →
    exec .getres s = .next
      (if good s = true then
        match levelOfCfg s.params (s.bus.byte 4) with
        | some level =>
          { afterSpread s.params.nFull s with rsp := some ⟨false, 0, BitVec.ofNat 24 level, 0⟩ }
        | none =>
          { afterSpread s.params.nFull s with fatal := true, cause := .cfgUnrecognized, rsp := none }
      else
        match levelOfCfg s.params s.cfg with
        | some level =>
          { s with rsp := some ⟨false, (validate s.params s.addr).code, BitVec.ofNat 24 level, 0⟩ }
        | none => { s with fatal := true, cause := .cfgUnrecognized, rsp := none })

/-- SETRES level, of word 0x800 + level: on a Good address a full read, the new pattern, and the write that sends it
with the alarm bytes just read; the answer is the level written. On an address that is not Good nothing but the
response (rules R183 and R184). -/
def Obligations.SetresWritesTheLevelWithTheAlarmsRead : Prop :=
  (∀ level : BitVec 8, decode (0x8#4 ++ level) = .ok (.setres level.toNat)) ∧
  ∀ (level : Nat) (s : State), s.params.WF → exec (.setres level) s = .next
    (if good s = true then
      { s with
        tLsb := s.bus.byte 0
        tMsb := s.bus.byte 1
        th := s.bus.byte 2
        tl := s.bus.byte 3
        cfg := cfgOfLevel s.params (normalLevel level)
        tmr := if s.par then 0 else s.tmr
        bus := s.bus.skip 5 s.params.nFull 0
        trace := s.trace ++ spreadTrace s.params s.addr s.bus s.params.nFull ++
          spwriteTrace s.params s.addr (s.bus.byte 2) (s.bus.byte 3) (cfgOfLevel s.params (normalLevel level)) s.par
        rsp := some ⟨false, 0, BitVec.ofNat 24 (normalLevel level), 0⟩ }
    else { s with rsp := some ⟨false, (validate s.params s.addr).code, 0, 0⟩ })

/-- The two mappings of rule R31 between levels and patterns. -/
def Obligations.LevelsAndPatternsMapBothWays : Prop :=
  ∀ p : Params, p.WF →
    levelOfCfg p p.cfg9 = some 9 ∧ levelOfCfg p p.cfg10 = some 10 ∧ levelOfCfg p p.cfg11 = some 11 ∧
    levelOfCfg p p.cfg12 = some 12 ∧ (∀ c : Byte, c ∉ [p.cfg9, p.cfg10, p.cfg11, p.cfg12] → levelOfCfg p c = none) ∧
    cfgOfLevel p 9 = p.cfg9 ∧ cfgOfLevel p 10 = p.cfg10 ∧ cfgOfLevel p 11 = p.cfg11 ∧ cfgOfLevel p 12 = p.cfg12 ∧
    (∀ level : Nat, level < 9 ∨ 12 < level → cfgOfLevel p level = p.cfg12)

/-- SETRES then GETRES answers the level, 12 for any other integer, if the device returns the byte written (rule
R185). -/
def Obligations.GetresAfterSetresAnswersTheLevel : Prop :=
  ∀ (level : Nat) (s : State), s.params.WF → good s = true →
    ∃ t, exec (.setres level) s = .next t ∧ t.cfg = cfgOfLevel s.params level ∧
      (t.bus.byte 4 = t.cfg → ∃ u, exec .getres t = .next u ∧
        u.rsp = some ⟨false, 0, BitVec.ofNat 24 (normalLevel level), 0⟩)

/-! ### Session -/

/-- RESET and BEGIN when the enumeration gives `IDX` Good candidates and then another: that one becomes the address, no
further candidate is asked for, the power mode is detected, and the full scratchpad is read (rules R190, R192, R193). -/
def Obligations.SessionEstablishedWhenTheDeviceIsFound : Prop :=
  decode 0x100 = .ok .begin ∧ decode 0x200 = .ok .reset ∧
  ∀ (i : Instr) (s : State) (before after : List Addr) (a : Addr), IsSession i → s.params.WF →
    s.bus.session = before ++ a :: after → validate s.params a = .good → countGood s.params before = s.idx →
    exec i s = .next { s with
      addr := a
      tLsb := s.bus.byte 0
      tMsb := s.bus.byte 1
      th := s.bus.byte 2
      tl := s.bus.byte 3
      cfg := s.bus.byte 4
      par := !s.bus.bit
      auto := autoAfter i s.auto
      conv := .idle
      bus := { s.bus.skip 3 s.params.nFull 1 with candidates := after, sessions := s.bus.sessions.drop 1 }
      trace := s.trace ++ .enumReset :: foundEvents (before ++ [a]) ++ powerTrace s.params a s.bus.bit ++
        spreadTrace s.params a s.bus s.params.nFull
      rsp := some ⟨false, 0, 0, 0⟩ }

/-- RESET and BEGIN when fewer than `IDX` + 1 Good candidates exist: the address is zero, the image holds its defaults,
and nothing is done after the enumeration (rules R192 and R195). -/
def Obligations.SessionWithoutADeviceLeavesTheDefaults : Prop :=
  ∀ (i : Instr) (s : State), IsSession i → s.params.WF → countGood s.params s.bus.session < s.idx + 1 →
    validate s.params Addr.zero ≠ .good ∧
    exec i s = .next { s with
      addr := Addr.zero
      tLsb := 0x00
      tMsb := 0x00
      th := 0x7D
      tl := 0xC9
      cfg := s.params.cfg9
      par := true
      auto := autoAfter i s.auto
      conv := .idle
      bus := { s.bus with candidates := [], sessions := s.bus.sessions.drop 1 }
      trace := s.trace ++ .enumReset :: foundEvents s.bus.session ++ [.enumNext none]
      rsp := some ⟨false, (validate s.params Addr.zero).code, 0, 0⟩ }

/-- A second RESET, the transport answering it as it did the first, leaves the same state as one (rule R191). -/
def Obligations.ResetIsIdempotent : Prop :=
  ∀ s : State, ∃ t, exec .reset s = .next t ∧ exec .reset { t with bus := s.bus, trace := s.trace } = .next t

/-- What each command but BEGIN and RESET does while no device has been found (rule R222, from rule R39): the address is
the zero address and the image holds its defaults. What BEGIN and RESET do in every state is stated above. -/
def Obligations.CommandsBeforeADeviceIsFound : Prop :=
  ∀ s : State, MachineInv s → good s = false →
    status s = (validate s.params Addr.zero).code ∧ status s ≠ 0 ∧
    exec .isvalid s = .next { s with rsp := some ⟨false, status s, 0, 0⟩ } ∧
    exec .getaddr s = .next { s with rsp := some ⟨false, status s, 0, 0⟩ } ∧
    exec .gettc s = .next { s with rsp := some ⟨false, status s, s.params.sentinel, 0⟩ } ∧
    exec .gettf s = .next { s with rsp := some ⟨false, status s, s.params.sentinel, 0⟩ } ∧
    exec .getres s = .next { s with rsp := some ⟨false, status s, 9, 0⟩ } ∧
    exec .ispara s = .next { s with rsp := some ⟨false, status s, 1, 0⟩ } ∧
    (∀ level : Nat, exec (.setres level) s = .next { s with rsp := some ⟨false, status s, 0, 0⟩ }) ∧
    (∀ n : Nat, exec (.sprd n) s = .next { s with rsp := some ⟨false, status s, 0, 0⟩ }) ∧
    exec .spwr s = .next { s with rsp := some ⟨false, status s, 0, 0⟩ } ∧
    exec .reqbc s = .next { s with
      conv := .requested
      bus := s.bus.skip 1 0 0
      trace := s.trace ++ [.reset, .skip, .write s.params.cmdStartConvo true]
      rsp := some ⟨false, status s, 0, 0⟩ } ∧
    exec .waitcv s = .next { s with
      conv := .ready
      tmr := 0
      trace := s.trace ++ [.delay 94]
      rsp := some ⟨false, status s, 0, 0⟩ }

/-! ### The sequencer -/

/-- Running a command one step of its sequence at a time ends, after some number of steps, in the state its meaning
gives, and the core is busy until then (rules R13, R29 and R33). That there are these two granularities
(notes/assumptions/5), that a step of a waiting core is one tick (notes/assumptions/12), and that gates, register
writes and the response take steps of their own (notes/assumptions/13) is the model's choice; how many steps it takes
is not stated. -/
def Obligations.SequencerRunsEachCommandToItsMeaning : Prop :=
  ∀ (i : Instr) (s : State), s.seq = .idle → s.tmr = 0 →
    ∃ k : Nat, exec i s = .next (advanceBy k (beginSequence i s)) ∧
      ∀ j : Nat, j < k → (advanceBy j (beginSequence i s)).seq ≠ .idle

/-- One step of the sequencer performs the request on the transport port, and nothing else reaches the transport; a step
without a request leaves at most a delay event (rules R52, R56 and R59). -/
def Obligations.SequencerPerformsTheRequestOnItsPort : Prop :=
  ∀ s : State,
    (∀ q : Request, pendingRequest s = some q →
      (advance s).trace = s.trace ++ [eventOf q (s.bus.answer q).1] ∧ (advance s).bus = (s.bus.answer q).2) ∧
    (pendingRequest s = none →
      (advance s).bus = s.bus ∧
      ((advance s).trace = s.trace ∨ ∃ ms : Nat, (advance s).trace = s.trace ++ [.delay ms]))

/-- The transport port in every state: `bt_req` = 1 exactly while the sequencer drives a request, and then `bt_op` is the
request's code, `bt_addr` the address of a select with byte `i` in bits `[8i+7:8i]`, and `bt_data` and `bt_hold` the byte
and the hold bit of a write (rules R56, R78 and R79). -/
def Obligations.TransportPortCarriesTheRequest : Prop :=
  ∀ s : State,
    (pendingRequest s = none → (outPorts s).btReq = false) ∧
    (∀ q : Request, pendingRequest s = some q →
      (outPorts s).btReq = true ∧
      match q with
      | .busReset => (outPorts s).btOp = 0
      | .enumReset => (outPorts s).btOp = 1
      | .enumNext => (outPorts s).btOp = 2
      | .select a => (outPorts s).btOp = 3 ∧
          (outPorts s).btAddr = a.b7 ++ a.b6 ++ a.b5 ++ a.b4 ++ a.b3 ++ a.b2 ++ a.b1 ++ a.b0
      | .skip => (outPorts s).btOp = 4
      | .write b hold => (outPorts s).btOp = 5 ∧ (outPorts s).btData = b ∧ (outPorts s).btHold = hold
      | .readByte => (outPorts s).btOp = 6
      | .readBit => (outPorts s).btOp = 7)

/-- A response stands on its channel for one cycle, in which `cmd_ready` is 0; after it the core is idle, the channel
is free, and `cmd_ready` is 1 again, the word that waits still waiting. The last step of a sequence leads to that
cycle, or, in Fatal, delivers nothing (rules R70, R203). An illegal word presented to be run one step at a time has
that cycle too (rule R76), after which the core is in the state that it is in when the word is run whole. That one
cycle is one step, and that a word can be presented in these two ways, is the model's choice (notes/assumptions/5 and
13). -/
def Obligations.ResponseStandsForOneCycle : Prop :=
  (∀ (s : State) (r : Response), s.seq = .responding → s.tmr = 0 → s.fatal = false → s.rsp = some r →
    (∀ k, s.inputs.head? ≠ some (.hwReset k)) →
    cmdReady s = false ∧ (outPorts s).rspValid = true ∧
    ∃ t, step s = .next t ∧ cmdReady t = true ∧ (outPorts t).rspValid = false ∧
      t = { s with
        seq := .idle
        inputs := if s.inputs.head? = some .clock then s.inputs.tail else s.inputs }) ∧
  (∀ (s : State) (cmd : Instr), s.seq = .busy cmd [.finish] → s.tmr = 0 →
    ((advance s).seq = .responding ∧ (outPorts (advance s)).rspValid = true ∧ (advance s).fatal = s.fatal) ∨
    ((advance s).seq = .idle ∧ (advance s).rsp = none ∧ (advance s).fatal = true)) ∧
  (∀ (s : State) (w : BitVec 12) (rest : List Input), Ready s → s.tmr = 0 → s.inputs = .start w :: rest →
    (∃ e, decode w = .error e) → ∃ t, step s = .next t ∧ cmdReady t = false ∧ (outPorts t).rspValid = true ∧
      t = { s with seq := .responding, inputs := rest, rsp := some ⟨true, 0, 0, 0⟩ } ∧
      advance t = { s with inputs := rest, rsp := some ⟨true, 0, 0, 0⟩ })

/-- The output ports: `cmd_ready` = 1 exactly in an idle core that is not Fatal, never while a request is driven, and
never in a response cycle, in which the record stands on the channel; `bt_req`, whose request's fields are stated above; `FATAL` and `CAUSE`
(rules R70, R74, R79, R201). -/
def Obligations.OutputPortsFollowTheState : Prop :=
  ∀ s : State,
    ((outPorts s).cmdReady = true ↔ Ready s) ∧
    (outPorts s).btReq = (pendingRequest s).isSome ∧
    ((outPorts s).btReq = true → (outPorts s).cmdReady = false) ∧
    ((outPorts s).rspValid = true → (outPorts s).cmdReady = false) ∧
    ((outPorts s).rspValid = true ↔ s.seq = .responding ∧ ∃ r, s.rsp = some r ∧ (outPorts s).rspErr = r.err ∧
      (outPorts s).rspSt = r.st ∧ (outPorts s).rspVal = r.val ∧ (outPorts s).rspAddr = r.addr) ∧
    (outPorts s).fatal = s.fatal ∧
    ((outPorts s).fatalCause = 0 ↔ s.cause = .none) ∧ ((outPorts s).fatalCause = 1 ↔ s.cause = .cfgUnrecognized) ∧
    ((outPorts s).fatalCause = 2 ↔ s.cause = .modelNoDecode) ∧ (outPorts s).fatalCause ≠ 3
end

