-- ==== Sys2Proof/Laws/State.lean ====
section
/-!
SUPPORT. What each write of the state leaves in each field: one lemma per field per update, so that no proof unfolds a
record update.
-/

namespace Sys2Proof.Machine

variable (s : State)

/-! ### emit -/

@[simp] theorem emit_addr (e : Event) : (emit e s).addr = s.addr := rfl
@[simp] theorem emit_tLsb (e : Event) : (emit e s).tLsb = s.tLsb := rfl
@[simp] theorem emit_tMsb (e : Event) : (emit e s).tMsb = s.tMsb := rfl
@[simp] theorem emit_th (e : Event) : (emit e s).th = s.th := rfl
@[simp] theorem emit_tl (e : Event) : (emit e s).tl = s.tl := rfl
@[simp] theorem emit_cfg (e : Event) : (emit e s).cfg = s.cfg := rfl
@[simp] theorem emit_par (e : Event) : (emit e s).par = s.par := rfl
@[simp] theorem emit_auto (e : Event) : (emit e s).auto = s.auto := rfl
@[simp] theorem emit_conv (e : Event) : (emit e s).conv = s.conv := rfl
@[simp] theorem emit_fatal (e : Event) : (emit e s).fatal = s.fatal := rfl
@[simp] theorem emit_cause (e : Event) : (emit e s).cause = s.cause := rfl
@[simp] theorem emit_tmr (e : Event) : (emit e s).tmr = s.tmr := rfl
@[simp] theorem emit_seq (e : Event) : (emit e s).seq = s.seq := rfl
@[simp] theorem emit_idx (e : Event) : (emit e s).idx = s.idx := rfl
@[simp] theorem emit_params (e : Event) : (emit e s).params = s.params := rfl
@[simp] theorem emit_bus (e : Event) : (emit e s).bus = s.bus := rfl
@[simp] theorem emit_inputs (e : Event) : (emit e s).inputs = s.inputs := rfl
@[simp] theorem emit_rsp (e : Event) : (emit e s).rsp = s.rsp := rfl
@[simp] theorem emit_trace (e : Event) : (emit e s).trace = s.trace ++ [e] := rfl

/-! ### loadTimer -/

@[simp] theorem loadTimer_addr (ms : Nat) : (loadTimer ms s).addr = s.addr := rfl
@[simp] theorem loadTimer_tLsb (ms : Nat) : (loadTimer ms s).tLsb = s.tLsb := rfl
@[simp] theorem loadTimer_tMsb (ms : Nat) : (loadTimer ms s).tMsb = s.tMsb := rfl
@[simp] theorem loadTimer_th (ms : Nat) : (loadTimer ms s).th = s.th := rfl
@[simp] theorem loadTimer_tl (ms : Nat) : (loadTimer ms s).tl = s.tl := rfl
@[simp] theorem loadTimer_cfg (ms : Nat) : (loadTimer ms s).cfg = s.cfg := rfl
@[simp] theorem loadTimer_par (ms : Nat) : (loadTimer ms s).par = s.par := rfl
@[simp] theorem loadTimer_auto (ms : Nat) : (loadTimer ms s).auto = s.auto := rfl
@[simp] theorem loadTimer_conv (ms : Nat) : (loadTimer ms s).conv = s.conv := rfl
@[simp] theorem loadTimer_fatal (ms : Nat) : (loadTimer ms s).fatal = s.fatal := rfl
@[simp] theorem loadTimer_cause (ms : Nat) : (loadTimer ms s).cause = s.cause := rfl
@[simp] theorem loadTimer_tmr (ms : Nat) : (loadTimer ms s).tmr = BitVec.ofNat 10 (ms + 1) := rfl
@[simp] theorem loadTimer_seq (ms : Nat) : (loadTimer ms s).seq = s.seq := rfl
@[simp] theorem loadTimer_idx (ms : Nat) : (loadTimer ms s).idx = s.idx := rfl
@[simp] theorem loadTimer_params (ms : Nat) : (loadTimer ms s).params = s.params := rfl
@[simp] theorem loadTimer_bus (ms : Nat) : (loadTimer ms s).bus = s.bus := rfl
@[simp] theorem loadTimer_inputs (ms : Nat) : (loadTimer ms s).inputs = s.inputs := rfl
@[simp] theorem loadTimer_rsp (ms : Nat) : (loadTimer ms s).rsp = s.rsp := rfl
@[simp] theorem loadTimer_trace (ms : Nat) : (loadTimer ms s).trace = s.trace ++ [.delay ms] := rfl

/-! ### tick -/

@[simp] theorem tick_addr : (tick s).addr = s.addr := rfl
@[simp] theorem tick_tLsb : (tick s).tLsb = s.tLsb := rfl
@[simp] theorem tick_tMsb : (tick s).tMsb = s.tMsb := rfl
@[simp] theorem tick_th : (tick s).th = s.th := rfl
@[simp] theorem tick_tl : (tick s).tl = s.tl := rfl
@[simp] theorem tick_cfg : (tick s).cfg = s.cfg := rfl
@[simp] theorem tick_par : (tick s).par = s.par := rfl
@[simp] theorem tick_auto : (tick s).auto = s.auto := rfl
@[simp] theorem tick_conv : (tick s).conv = s.conv := rfl
@[simp] theorem tick_fatal : (tick s).fatal = s.fatal := rfl
@[simp] theorem tick_cause : (tick s).cause = s.cause := rfl
@[simp] theorem tick_tmr : (tick s).tmr = if s.tmr = 0 then 0 else s.tmr - 1 := rfl
@[simp] theorem tick_seq : (tick s).seq = s.seq := rfl
@[simp] theorem tick_idx : (tick s).idx = s.idx := rfl
@[simp] theorem tick_params : (tick s).params = s.params := rfl
@[simp] theorem tick_bus : (tick s).bus = s.bus := rfl
@[simp] theorem tick_inputs : (tick s).inputs = s.inputs := rfl
@[simp] theorem tick_rsp : (tick s).rsp = s.rsp := rfl
@[simp] theorem tick_trace : (tick s).trace = s.trace := rfl

/-! ### timerExpires -/

@[simp] theorem timerExpires_addr : (timerExpires s).addr = s.addr := rfl
@[simp] theorem timerExpires_tLsb : (timerExpires s).tLsb = s.tLsb := rfl
@[simp] theorem timerExpires_tMsb : (timerExpires s).tMsb = s.tMsb := rfl
@[simp] theorem timerExpires_th : (timerExpires s).th = s.th := rfl
@[simp] theorem timerExpires_tl : (timerExpires s).tl = s.tl := rfl
@[simp] theorem timerExpires_cfg : (timerExpires s).cfg = s.cfg := rfl
@[simp] theorem timerExpires_par : (timerExpires s).par = s.par := rfl
@[simp] theorem timerExpires_auto : (timerExpires s).auto = s.auto := rfl
@[simp] theorem timerExpires_conv : (timerExpires s).conv = s.conv := rfl
@[simp] theorem timerExpires_fatal : (timerExpires s).fatal = s.fatal := rfl
@[simp] theorem timerExpires_cause : (timerExpires s).cause = s.cause := rfl
@[simp] theorem timerExpires_tmr : (timerExpires s).tmr = 0 := rfl
@[simp] theorem timerExpires_seq : (timerExpires s).seq = s.seq := rfl
@[simp] theorem timerExpires_idx : (timerExpires s).idx = s.idx := rfl
@[simp] theorem timerExpires_params : (timerExpires s).params = s.params := rfl
@[simp] theorem timerExpires_bus : (timerExpires s).bus = s.bus := rfl
@[simp] theorem timerExpires_inputs : (timerExpires s).inputs = s.inputs := rfl
@[simp] theorem timerExpires_rsp : (timerExpires s).rsp = s.rsp := rfl
@[simp] theorem timerExpires_trace : (timerExpires s).trace = s.trace := rfl

/-! ### delay -/

@[simp] theorem delay_addr (ms : Nat) : (delay ms s).addr = s.addr := rfl
@[simp] theorem delay_tLsb (ms : Nat) : (delay ms s).tLsb = s.tLsb := rfl
@[simp] theorem delay_tMsb (ms : Nat) : (delay ms s).tMsb = s.tMsb := rfl
@[simp] theorem delay_th (ms : Nat) : (delay ms s).th = s.th := rfl
@[simp] theorem delay_tl (ms : Nat) : (delay ms s).tl = s.tl := rfl
@[simp] theorem delay_cfg (ms : Nat) : (delay ms s).cfg = s.cfg := rfl
@[simp] theorem delay_par (ms : Nat) : (delay ms s).par = s.par := rfl
@[simp] theorem delay_auto (ms : Nat) : (delay ms s).auto = s.auto := rfl
@[simp] theorem delay_conv (ms : Nat) : (delay ms s).conv = s.conv := rfl
@[simp] theorem delay_fatal (ms : Nat) : (delay ms s).fatal = s.fatal := rfl
@[simp] theorem delay_cause (ms : Nat) : (delay ms s).cause = s.cause := rfl
@[simp] theorem delay_tmr (ms : Nat) : (delay ms s).tmr = 0 := rfl
@[simp] theorem delay_seq (ms : Nat) : (delay ms s).seq = s.seq := rfl
@[simp] theorem delay_idx (ms : Nat) : (delay ms s).idx = s.idx := rfl
@[simp] theorem delay_params (ms : Nat) : (delay ms s).params = s.params := rfl
@[simp] theorem delay_bus (ms : Nat) : (delay ms s).bus = s.bus := rfl
@[simp] theorem delay_inputs (ms : Nat) : (delay ms s).inputs = s.inputs := rfl
@[simp] theorem delay_rsp (ms : Nat) : (delay ms s).rsp = s.rsp := rfl
@[simp] theorem delay_trace (ms : Nat) : (delay ms s).trace = s.trace ++ [.delay ms] := rfl

/-! ### setAddr -/

@[simp] theorem setAddr_addr (a : Addr) : (setAddr a s).addr = a := rfl
@[simp] theorem setAddr_tLsb (a : Addr) : (setAddr a s).tLsb = s.tLsb := rfl
@[simp] theorem setAddr_tMsb (a : Addr) : (setAddr a s).tMsb = s.tMsb := rfl
@[simp] theorem setAddr_th (a : Addr) : (setAddr a s).th = s.th := rfl
@[simp] theorem setAddr_tl (a : Addr) : (setAddr a s).tl = s.tl := rfl
@[simp] theorem setAddr_cfg (a : Addr) : (setAddr a s).cfg = s.cfg := rfl
@[simp] theorem setAddr_par (a : Addr) : (setAddr a s).par = s.par := rfl
@[simp] theorem setAddr_auto (a : Addr) : (setAddr a s).auto = s.auto := rfl
@[simp] theorem setAddr_conv (a : Addr) : (setAddr a s).conv = s.conv := rfl
@[simp] theorem setAddr_fatal (a : Addr) : (setAddr a s).fatal = s.fatal := rfl
@[simp] theorem setAddr_cause (a : Addr) : (setAddr a s).cause = s.cause := rfl
@[simp] theorem setAddr_tmr (a : Addr) : (setAddr a s).tmr = s.tmr := rfl
@[simp] theorem setAddr_seq (a : Addr) : (setAddr a s).seq = s.seq := rfl
@[simp] theorem setAddr_idx (a : Addr) : (setAddr a s).idx = s.idx := rfl
@[simp] theorem setAddr_params (a : Addr) : (setAddr a s).params = s.params := rfl
@[simp] theorem setAddr_bus (a : Addr) : (setAddr a s).bus = s.bus := rfl
@[simp] theorem setAddr_inputs (a : Addr) : (setAddr a s).inputs = s.inputs := rfl
@[simp] theorem setAddr_rsp (a : Addr) : (setAddr a s).rsp = s.rsp := rfl
@[simp] theorem setAddr_trace (a : Addr) : (setAddr a s).trace = s.trace := rfl

/-! ### setCfg -/

@[simp] theorem setCfg_addr (c : Byte) : (setCfg c s).addr = s.addr := rfl
@[simp] theorem setCfg_tLsb (c : Byte) : (setCfg c s).tLsb = s.tLsb := rfl
@[simp] theorem setCfg_tMsb (c : Byte) : (setCfg c s).tMsb = s.tMsb := rfl
@[simp] theorem setCfg_th (c : Byte) : (setCfg c s).th = s.th := rfl
@[simp] theorem setCfg_tl (c : Byte) : (setCfg c s).tl = s.tl := rfl
@[simp] theorem setCfg_cfg (c : Byte) : (setCfg c s).cfg = c := rfl
@[simp] theorem setCfg_par (c : Byte) : (setCfg c s).par = s.par := rfl
@[simp] theorem setCfg_auto (c : Byte) : (setCfg c s).auto = s.auto := rfl
@[simp] theorem setCfg_conv (c : Byte) : (setCfg c s).conv = s.conv := rfl
@[simp] theorem setCfg_fatal (c : Byte) : (setCfg c s).fatal = s.fatal := rfl
@[simp] theorem setCfg_cause (c : Byte) : (setCfg c s).cause = s.cause := rfl
@[simp] theorem setCfg_tmr (c : Byte) : (setCfg c s).tmr = s.tmr := rfl
@[simp] theorem setCfg_seq (c : Byte) : (setCfg c s).seq = s.seq := rfl
@[simp] theorem setCfg_idx (c : Byte) : (setCfg c s).idx = s.idx := rfl
@[simp] theorem setCfg_params (c : Byte) : (setCfg c s).params = s.params := rfl
@[simp] theorem setCfg_bus (c : Byte) : (setCfg c s).bus = s.bus := rfl
@[simp] theorem setCfg_inputs (c : Byte) : (setCfg c s).inputs = s.inputs := rfl
@[simp] theorem setCfg_rsp (c : Byte) : (setCfg c s).rsp = s.rsp := rfl
@[simp] theorem setCfg_trace (c : Byte) : (setCfg c s).trace = s.trace := rfl

/-! ### setPar -/

@[simp] theorem setPar_addr (b : Bool) : (setPar b s).addr = s.addr := rfl
@[simp] theorem setPar_tLsb (b : Bool) : (setPar b s).tLsb = s.tLsb := rfl
@[simp] theorem setPar_tMsb (b : Bool) : (setPar b s).tMsb = s.tMsb := rfl
@[simp] theorem setPar_th (b : Bool) : (setPar b s).th = s.th := rfl
@[simp] theorem setPar_tl (b : Bool) : (setPar b s).tl = s.tl := rfl
@[simp] theorem setPar_cfg (b : Bool) : (setPar b s).cfg = s.cfg := rfl
@[simp] theorem setPar_par (b : Bool) : (setPar b s).par = b := rfl
@[simp] theorem setPar_auto (b : Bool) : (setPar b s).auto = s.auto := rfl
@[simp] theorem setPar_conv (b : Bool) : (setPar b s).conv = s.conv := rfl
@[simp] theorem setPar_fatal (b : Bool) : (setPar b s).fatal = s.fatal := rfl
@[simp] theorem setPar_cause (b : Bool) : (setPar b s).cause = s.cause := rfl
@[simp] theorem setPar_tmr (b : Bool) : (setPar b s).tmr = s.tmr := rfl
@[simp] theorem setPar_seq (b : Bool) : (setPar b s).seq = s.seq := rfl
@[simp] theorem setPar_idx (b : Bool) : (setPar b s).idx = s.idx := rfl
@[simp] theorem setPar_params (b : Bool) : (setPar b s).params = s.params := rfl
@[simp] theorem setPar_bus (b : Bool) : (setPar b s).bus = s.bus := rfl
@[simp] theorem setPar_inputs (b : Bool) : (setPar b s).inputs = s.inputs := rfl
@[simp] theorem setPar_rsp (b : Bool) : (setPar b s).rsp = s.rsp := rfl
@[simp] theorem setPar_trace (b : Bool) : (setPar b s).trace = s.trace := rfl

/-! ### setAuto -/

@[simp] theorem setAuto_addr (b : Bool) : (setAuto b s).addr = s.addr := rfl
@[simp] theorem setAuto_tLsb (b : Bool) : (setAuto b s).tLsb = s.tLsb := rfl
@[simp] theorem setAuto_tMsb (b : Bool) : (setAuto b s).tMsb = s.tMsb := rfl
@[simp] theorem setAuto_th (b : Bool) : (setAuto b s).th = s.th := rfl
@[simp] theorem setAuto_tl (b : Bool) : (setAuto b s).tl = s.tl := rfl
@[simp] theorem setAuto_cfg (b : Bool) : (setAuto b s).cfg = s.cfg := rfl
@[simp] theorem setAuto_par (b : Bool) : (setAuto b s).par = s.par := rfl
@[simp] theorem setAuto_auto (b : Bool) : (setAuto b s).auto = b := rfl
@[simp] theorem setAuto_conv (b : Bool) : (setAuto b s).conv = s.conv := rfl
@[simp] theorem setAuto_fatal (b : Bool) : (setAuto b s).fatal = s.fatal := rfl
@[simp] theorem setAuto_cause (b : Bool) : (setAuto b s).cause = s.cause := rfl
@[simp] theorem setAuto_tmr (b : Bool) : (setAuto b s).tmr = s.tmr := rfl
@[simp] theorem setAuto_seq (b : Bool) : (setAuto b s).seq = s.seq := rfl
@[simp] theorem setAuto_idx (b : Bool) : (setAuto b s).idx = s.idx := rfl
@[simp] theorem setAuto_params (b : Bool) : (setAuto b s).params = s.params := rfl
@[simp] theorem setAuto_bus (b : Bool) : (setAuto b s).bus = s.bus := rfl
@[simp] theorem setAuto_inputs (b : Bool) : (setAuto b s).inputs = s.inputs := rfl
@[simp] theorem setAuto_rsp (b : Bool) : (setAuto b s).rsp = s.rsp := rfl
@[simp] theorem setAuto_trace (b : Bool) : (setAuto b s).trace = s.trace := rfl

/-! ### setConv -/

@[simp] theorem setConv_addr (c : Conv) : (setConv c s).addr = s.addr := rfl
@[simp] theorem setConv_tLsb (c : Conv) : (setConv c s).tLsb = s.tLsb := rfl
@[simp] theorem setConv_tMsb (c : Conv) : (setConv c s).tMsb = s.tMsb := rfl
@[simp] theorem setConv_th (c : Conv) : (setConv c s).th = s.th := rfl
@[simp] theorem setConv_tl (c : Conv) : (setConv c s).tl = s.tl := rfl
@[simp] theorem setConv_cfg (c : Conv) : (setConv c s).cfg = s.cfg := rfl
@[simp] theorem setConv_par (c : Conv) : (setConv c s).par = s.par := rfl
@[simp] theorem setConv_auto (c : Conv) : (setConv c s).auto = s.auto := rfl
@[simp] theorem setConv_conv (c : Conv) : (setConv c s).conv = c := rfl
@[simp] theorem setConv_fatal (c : Conv) : (setConv c s).fatal = s.fatal := rfl
@[simp] theorem setConv_cause (c : Conv) : (setConv c s).cause = s.cause := rfl
@[simp] theorem setConv_tmr (c : Conv) : (setConv c s).tmr = s.tmr := rfl
@[simp] theorem setConv_seq (c : Conv) : (setConv c s).seq = s.seq := rfl
@[simp] theorem setConv_idx (c : Conv) : (setConv c s).idx = s.idx := rfl
@[simp] theorem setConv_params (c : Conv) : (setConv c s).params = s.params := rfl
@[simp] theorem setConv_bus (c : Conv) : (setConv c s).bus = s.bus := rfl
@[simp] theorem setConv_inputs (c : Conv) : (setConv c s).inputs = s.inputs := rfl
@[simp] theorem setConv_rsp (c : Conv) : (setConv c s).rsp = s.rsp := rfl
@[simp] theorem setConv_trace (c : Conv) : (setConv c s).trace = s.trace := rfl

/-! ### loadImageDefaults -/

@[simp] theorem loadImageDefaults_addr : (loadImageDefaults s).addr = s.addr := rfl
@[simp] theorem loadImageDefaults_tLsb : (loadImageDefaults s).tLsb = 0x00 := rfl
@[simp] theorem loadImageDefaults_tMsb : (loadImageDefaults s).tMsb = 0x00 := rfl
@[simp] theorem loadImageDefaults_th : (loadImageDefaults s).th = thDefault := rfl
@[simp] theorem loadImageDefaults_tl : (loadImageDefaults s).tl = tlDefault := rfl
@[simp] theorem loadImageDefaults_cfg : (loadImageDefaults s).cfg = s.params.cfg9 := rfl
@[simp] theorem loadImageDefaults_par : (loadImageDefaults s).par = true := rfl
@[simp] theorem loadImageDefaults_auto : (loadImageDefaults s).auto = s.auto := rfl
@[simp] theorem loadImageDefaults_conv : (loadImageDefaults s).conv = s.conv := rfl
@[simp] theorem loadImageDefaults_fatal : (loadImageDefaults s).fatal = s.fatal := rfl
@[simp] theorem loadImageDefaults_cause : (loadImageDefaults s).cause = s.cause := rfl
@[simp] theorem loadImageDefaults_tmr : (loadImageDefaults s).tmr = s.tmr := rfl
@[simp] theorem loadImageDefaults_seq : (loadImageDefaults s).seq = s.seq := rfl
@[simp] theorem loadImageDefaults_idx : (loadImageDefaults s).idx = s.idx := rfl
@[simp] theorem loadImageDefaults_params : (loadImageDefaults s).params = s.params := rfl
@[simp] theorem loadImageDefaults_bus : (loadImageDefaults s).bus = s.bus := rfl
@[simp] theorem loadImageDefaults_inputs : (loadImageDefaults s).inputs = s.inputs := rfl
@[simp] theorem loadImageDefaults_rsp : (loadImageDefaults s).rsp = s.rsp := rfl
@[simp] theorem loadImageDefaults_trace : (loadImageDefaults s).trace = s.trace := rfl

/-! ### loadDefaults -/

@[simp] theorem loadDefaults_addr : (loadDefaults s).addr = Addr.zero := rfl
@[simp] theorem loadDefaults_tLsb : (loadDefaults s).tLsb = 0x00 := rfl
@[simp] theorem loadDefaults_tMsb : (loadDefaults s).tMsb = 0x00 := rfl
@[simp] theorem loadDefaults_th : (loadDefaults s).th = thDefault := rfl
@[simp] theorem loadDefaults_tl : (loadDefaults s).tl = tlDefault := rfl
@[simp] theorem loadDefaults_cfg : (loadDefaults s).cfg = s.params.cfg9 := rfl
@[simp] theorem loadDefaults_par : (loadDefaults s).par = true := rfl
@[simp] theorem loadDefaults_auto : (loadDefaults s).auto = s.auto := rfl
@[simp] theorem loadDefaults_conv : (loadDefaults s).conv = .idle := rfl
@[simp] theorem loadDefaults_fatal : (loadDefaults s).fatal = s.fatal := rfl
@[simp] theorem loadDefaults_cause : (loadDefaults s).cause = s.cause := rfl
@[simp] theorem loadDefaults_tmr : (loadDefaults s).tmr = s.tmr := rfl
@[simp] theorem loadDefaults_seq : (loadDefaults s).seq = s.seq := rfl
@[simp] theorem loadDefaults_idx : (loadDefaults s).idx = s.idx := rfl
@[simp] theorem loadDefaults_params : (loadDefaults s).params = s.params := rfl
@[simp] theorem loadDefaults_bus : (loadDefaults s).bus = s.bus := rfl
@[simp] theorem loadDefaults_inputs : (loadDefaults s).inputs = s.inputs := rfl
@[simp] theorem loadDefaults_rsp : (loadDefaults s).rsp = s.rsp := rfl
@[simp] theorem loadDefaults_trace : (loadDefaults s).trace = s.trace := rfl

/-! ### respond -/

@[simp] theorem respond_addr (err : Bool) (st : BitVec 2) (val : BitVec 24) (addr : BitVec 64) : (respond err st val addr s).addr = s.addr := rfl
@[simp] theorem respond_tLsb (err : Bool) (st : BitVec 2) (val : BitVec 24) (addr : BitVec 64) : (respond err st val addr s).tLsb = s.tLsb := rfl
@[simp] theorem respond_tMsb (err : Bool) (st : BitVec 2) (val : BitVec 24) (addr : BitVec 64) : (respond err st val addr s).tMsb = s.tMsb := rfl
@[simp] theorem respond_th (err : Bool) (st : BitVec 2) (val : BitVec 24) (addr : BitVec 64) : (respond err st val addr s).th = s.th := rfl
@[simp] theorem respond_tl (err : Bool) (st : BitVec 2) (val : BitVec 24) (addr : BitVec 64) : (respond err st val addr s).tl = s.tl := rfl
@[simp] theorem respond_cfg (err : Bool) (st : BitVec 2) (val : BitVec 24) (addr : BitVec 64) : (respond err st val addr s).cfg = s.cfg := rfl
@[simp] theorem respond_par (err : Bool) (st : BitVec 2) (val : BitVec 24) (addr : BitVec 64) : (respond err st val addr s).par = s.par := rfl
@[simp] theorem respond_auto (err : Bool) (st : BitVec 2) (val : BitVec 24) (addr : BitVec 64) : (respond err st val addr s).auto = s.auto := rfl
@[simp] theorem respond_conv (err : Bool) (st : BitVec 2) (val : BitVec 24) (addr : BitVec 64) : (respond err st val addr s).conv = s.conv := rfl
@[simp] theorem respond_fatal (err : Bool) (st : BitVec 2) (val : BitVec 24) (addr : BitVec 64) : (respond err st val addr s).fatal = s.fatal := rfl
@[simp] theorem respond_cause (err : Bool) (st : BitVec 2) (val : BitVec 24) (addr : BitVec 64) : (respond err st val addr s).cause = s.cause := rfl
@[simp] theorem respond_tmr (err : Bool) (st : BitVec 2) (val : BitVec 24) (addr : BitVec 64) : (respond err st val addr s).tmr = s.tmr := rfl
@[simp] theorem respond_seq (err : Bool) (st : BitVec 2) (val : BitVec 24) (addr : BitVec 64) : (respond err st val addr s).seq = s.seq := rfl
@[simp] theorem respond_idx (err : Bool) (st : BitVec 2) (val : BitVec 24) (addr : BitVec 64) : (respond err st val addr s).idx = s.idx := rfl
@[simp] theorem respond_params (err : Bool) (st : BitVec 2) (val : BitVec 24) (addr : BitVec 64) : (respond err st val addr s).params = s.params := rfl
@[simp] theorem respond_bus (err : Bool) (st : BitVec 2) (val : BitVec 24) (addr : BitVec 64) : (respond err st val addr s).bus = s.bus := rfl
@[simp] theorem respond_inputs (err : Bool) (st : BitVec 2) (val : BitVec 24) (addr : BitVec 64) : (respond err st val addr s).inputs = s.inputs := rfl
@[simp] theorem respond_rsp (err : Bool) (st : BitVec 2) (val : BitVec 24) (addr : BitVec 64) : (respond err st val addr s).rsp = some ⟨err, st, val, addr⟩ := rfl
@[simp] theorem respond_trace (err : Bool) (st : BitVec 2) (val : BitVec 24) (addr : BitVec 64) : (respond err st val addr s).trace = s.trace := rfl

/-! ### raiseFatal -/

@[simp] theorem raiseFatal_addr (c : Cause) : (raiseFatal c s).addr = s.addr := rfl
@[simp] theorem raiseFatal_tLsb (c : Cause) : (raiseFatal c s).tLsb = s.tLsb := rfl
@[simp] theorem raiseFatal_tMsb (c : Cause) : (raiseFatal c s).tMsb = s.tMsb := rfl
@[simp] theorem raiseFatal_th (c : Cause) : (raiseFatal c s).th = s.th := rfl
@[simp] theorem raiseFatal_tl (c : Cause) : (raiseFatal c s).tl = s.tl := rfl
@[simp] theorem raiseFatal_cfg (c : Cause) : (raiseFatal c s).cfg = s.cfg := rfl
@[simp] theorem raiseFatal_par (c : Cause) : (raiseFatal c s).par = s.par := rfl
@[simp] theorem raiseFatal_auto (c : Cause) : (raiseFatal c s).auto = s.auto := rfl
@[simp] theorem raiseFatal_conv (c : Cause) : (raiseFatal c s).conv = s.conv := rfl
@[simp] theorem raiseFatal_fatal (c : Cause) : (raiseFatal c s).fatal = true := rfl
@[simp] theorem raiseFatal_cause (c : Cause) : (raiseFatal c s).cause = c := rfl
@[simp] theorem raiseFatal_tmr (c : Cause) : (raiseFatal c s).tmr = s.tmr := rfl
@[simp] theorem raiseFatal_seq (c : Cause) : (raiseFatal c s).seq = s.seq := rfl
@[simp] theorem raiseFatal_idx (c : Cause) : (raiseFatal c s).idx = s.idx := rfl
@[simp] theorem raiseFatal_params (c : Cause) : (raiseFatal c s).params = s.params := rfl
@[simp] theorem raiseFatal_bus (c : Cause) : (raiseFatal c s).bus = s.bus := rfl
@[simp] theorem raiseFatal_inputs (c : Cause) : (raiseFatal c s).inputs = s.inputs := rfl
@[simp] theorem raiseFatal_rsp (c : Cause) : (raiseFatal c s).rsp = none := rfl
@[simp] theorem raiseFatal_trace (c : Cause) : (raiseFatal c s).trace = s.trace := rfl

/-! ### hardwareReset -/

@[simp] theorem hardwareReset_addr (k : Nat) : (hardwareReset k s).addr = Addr.zero := rfl
@[simp] theorem hardwareReset_tLsb (k : Nat) : (hardwareReset k s).tLsb = 0x00 := rfl
@[simp] theorem hardwareReset_tMsb (k : Nat) : (hardwareReset k s).tMsb = 0x00 := rfl
@[simp] theorem hardwareReset_th (k : Nat) : (hardwareReset k s).th = thDefault := rfl
@[simp] theorem hardwareReset_tl (k : Nat) : (hardwareReset k s).tl = tlDefault := rfl
@[simp] theorem hardwareReset_cfg (k : Nat) : (hardwareReset k s).cfg = s.params.cfg9 := rfl
@[simp] theorem hardwareReset_par (k : Nat) : (hardwareReset k s).par = true := rfl
@[simp] theorem hardwareReset_auto (k : Nat) : (hardwareReset k s).auto = false := rfl
@[simp] theorem hardwareReset_conv (k : Nat) : (hardwareReset k s).conv = .idle := rfl
@[simp] theorem hardwareReset_fatal (k : Nat) : (hardwareReset k s).fatal = false := rfl
@[simp] theorem hardwareReset_cause (k : Nat) : (hardwareReset k s).cause = .none := rfl
@[simp] theorem hardwareReset_tmr (k : Nat) : (hardwareReset k s).tmr = 0 := rfl
@[simp] theorem hardwareReset_seq (k : Nat) : (hardwareReset k s).seq = .idle := rfl
@[simp] theorem hardwareReset_idx (k : Nat) : (hardwareReset k s).idx = k % 2 ^ s.params.idxW := rfl
@[simp] theorem hardwareReset_params (k : Nat) : (hardwareReset k s).params = s.params := rfl
@[simp] theorem hardwareReset_bus (k : Nat) : (hardwareReset k s).bus = s.bus := rfl
@[simp] theorem hardwareReset_inputs (k : Nat) : (hardwareReset k s).inputs = s.inputs := rfl
@[simp] theorem hardwareReset_rsp (k : Nat) : (hardwareReset k s).rsp = none := rfl
@[simp] theorem hardwareReset_trace (k : Nat) : (hardwareReset k s).trace = s.trace := rfl

/-! ### dropInput -/

@[simp] theorem dropInput_addr : (dropInput s).addr = s.addr := rfl
@[simp] theorem dropInput_tLsb : (dropInput s).tLsb = s.tLsb := rfl
@[simp] theorem dropInput_tMsb : (dropInput s).tMsb = s.tMsb := rfl
@[simp] theorem dropInput_th : (dropInput s).th = s.th := rfl
@[simp] theorem dropInput_tl : (dropInput s).tl = s.tl := rfl
@[simp] theorem dropInput_cfg : (dropInput s).cfg = s.cfg := rfl
@[simp] theorem dropInput_par : (dropInput s).par = s.par := rfl
@[simp] theorem dropInput_auto : (dropInput s).auto = s.auto := rfl
@[simp] theorem dropInput_conv : (dropInput s).conv = s.conv := rfl
@[simp] theorem dropInput_fatal : (dropInput s).fatal = s.fatal := rfl
@[simp] theorem dropInput_cause : (dropInput s).cause = s.cause := rfl
@[simp] theorem dropInput_tmr : (dropInput s).tmr = s.tmr := rfl
@[simp] theorem dropInput_seq : (dropInput s).seq = s.seq := rfl
@[simp] theorem dropInput_idx : (dropInput s).idx = s.idx := rfl
@[simp] theorem dropInput_params : (dropInput s).params = s.params := rfl
@[simp] theorem dropInput_bus : (dropInput s).bus = s.bus := rfl
@[simp] theorem dropInput_inputs : (dropInput s).inputs = s.inputs.tail := rfl
@[simp] theorem dropInput_rsp : (dropInput s).rsp = s.rsp := rfl
@[simp] theorem dropInput_trace : (dropInput s).trace = s.trace := rfl

/-! ### takeInput -/

@[simp] theorem takeInput_addr : (takeInput s).addr = s.addr := rfl
@[simp] theorem takeInput_tLsb : (takeInput s).tLsb = s.tLsb := rfl
@[simp] theorem takeInput_tMsb : (takeInput s).tMsb = s.tMsb := rfl
@[simp] theorem takeInput_th : (takeInput s).th = s.th := rfl
@[simp] theorem takeInput_tl : (takeInput s).tl = s.tl := rfl
@[simp] theorem takeInput_cfg : (takeInput s).cfg = s.cfg := rfl
@[simp] theorem takeInput_par : (takeInput s).par = s.par := rfl
@[simp] theorem takeInput_auto : (takeInput s).auto = s.auto := rfl
@[simp] theorem takeInput_conv : (takeInput s).conv = s.conv := rfl
@[simp] theorem takeInput_fatal : (takeInput s).fatal = s.fatal := rfl
@[simp] theorem takeInput_cause : (takeInput s).cause = s.cause := rfl
@[simp] theorem takeInput_tmr : (takeInput s).tmr = s.tmr := rfl
@[simp] theorem takeInput_seq : (takeInput s).seq = s.seq := rfl
@[simp] theorem takeInput_idx : (takeInput s).idx = s.idx := rfl
@[simp] theorem takeInput_params : (takeInput s).params = s.params := rfl
@[simp] theorem takeInput_bus : (takeInput s).bus = s.bus := rfl
@[simp] theorem takeInput_inputs : (takeInput s).inputs = s.inputs.tail := rfl
@[simp] theorem takeInput_rsp : (takeInput s).rsp = none := rfl
@[simp] theorem takeInput_trace : (takeInput s).trace = s.trace := rfl

/-! ### beginIllegalResponse -/

@[simp] theorem beginIllegalResponse_addr : (beginIllegalResponse s).addr = s.addr := rfl
@[simp] theorem beginIllegalResponse_tLsb : (beginIllegalResponse s).tLsb = s.tLsb := rfl
@[simp] theorem beginIllegalResponse_tMsb : (beginIllegalResponse s).tMsb = s.tMsb := rfl
@[simp] theorem beginIllegalResponse_th : (beginIllegalResponse s).th = s.th := rfl
@[simp] theorem beginIllegalResponse_tl : (beginIllegalResponse s).tl = s.tl := rfl
@[simp] theorem beginIllegalResponse_cfg : (beginIllegalResponse s).cfg = s.cfg := rfl
@[simp] theorem beginIllegalResponse_par : (beginIllegalResponse s).par = s.par := rfl
@[simp] theorem beginIllegalResponse_auto : (beginIllegalResponse s).auto = s.auto := rfl
@[simp] theorem beginIllegalResponse_conv : (beginIllegalResponse s).conv = s.conv := rfl
@[simp] theorem beginIllegalResponse_fatal : (beginIllegalResponse s).fatal = s.fatal := rfl
@[simp] theorem beginIllegalResponse_cause : (beginIllegalResponse s).cause = s.cause := rfl
@[simp] theorem beginIllegalResponse_tmr : (beginIllegalResponse s).tmr = s.tmr := rfl
@[simp] theorem beginIllegalResponse_seq : (beginIllegalResponse s).seq = .responding := rfl
@[simp] theorem beginIllegalResponse_idx : (beginIllegalResponse s).idx = s.idx := rfl
@[simp] theorem beginIllegalResponse_params : (beginIllegalResponse s).params = s.params := rfl
@[simp] theorem beginIllegalResponse_bus : (beginIllegalResponse s).bus = s.bus := rfl
@[simp] theorem beginIllegalResponse_inputs : (beginIllegalResponse s).inputs = s.inputs := rfl
@[simp] theorem beginIllegalResponse_rsp : (beginIllegalResponse s).rsp = some ⟨true, 0, 0, 0⟩ := rfl
@[simp] theorem beginIllegalResponse_trace : (beginIllegalResponse s).trace = s.trace := rfl

/-! ### beginSequence -/

@[simp] theorem beginSequence_addr (i : Instr) : (beginSequence i s).addr = s.addr := rfl
@[simp] theorem beginSequence_tLsb (i : Instr) : (beginSequence i s).tLsb = s.tLsb := rfl
@[simp] theorem beginSequence_tMsb (i : Instr) : (beginSequence i s).tMsb = s.tMsb := rfl
@[simp] theorem beginSequence_th (i : Instr) : (beginSequence i s).th = s.th := rfl
@[simp] theorem beginSequence_tl (i : Instr) : (beginSequence i s).tl = s.tl := rfl
@[simp] theorem beginSequence_cfg (i : Instr) : (beginSequence i s).cfg = s.cfg := rfl
@[simp] theorem beginSequence_par (i : Instr) : (beginSequence i s).par = s.par := rfl
@[simp] theorem beginSequence_auto (i : Instr) : (beginSequence i s).auto = s.auto := rfl
@[simp] theorem beginSequence_conv (i : Instr) : (beginSequence i s).conv = s.conv := rfl
@[simp] theorem beginSequence_fatal (i : Instr) : (beginSequence i s).fatal = s.fatal := rfl
@[simp] theorem beginSequence_cause (i : Instr) : (beginSequence i s).cause = s.cause := rfl
@[simp] theorem beginSequence_tmr (i : Instr) : (beginSequence i s).tmr = s.tmr := rfl
@[simp] theorem beginSequence_seq (i : Instr) : (beginSequence i s).seq = .busy i (program s.params i) := rfl
@[simp] theorem beginSequence_idx (i : Instr) : (beginSequence i s).idx = s.idx := rfl
@[simp] theorem beginSequence_params (i : Instr) : (beginSequence i s).params = s.params := rfl
@[simp] theorem beginSequence_bus (i : Instr) : (beginSequence i s).bus = s.bus := rfl
@[simp] theorem beginSequence_inputs (i : Instr) : (beginSequence i s).inputs = s.inputs := rfl
@[simp] theorem beginSequence_rsp (i : Instr) : (beginSequence i s).rsp = none := rfl
@[simp] theorem beginSequence_trace (i : Instr) : (beginSequence i s).trace = s.trace := rfl

/-! ### setSp: a byte of the image, or nothing past position 4 -/

@[simp] theorem setSp_addr (k : Nat) (b : Byte) : (setSp k b s).addr = s.addr := by
  unfold setSp; split <;> rfl
@[simp] theorem setSp_tLsb (k : Nat) (b : Byte) : (setSp k b s).tLsb = if k = 0 then b else s.tLsb := by
  unfold setSp; split <;> simp_all
@[simp] theorem setSp_tMsb (k : Nat) (b : Byte) : (setSp k b s).tMsb = if k = 1 then b else s.tMsb := by
  unfold setSp; split <;> simp_all
@[simp] theorem setSp_th (k : Nat) (b : Byte) : (setSp k b s).th = if k = 2 then b else s.th := by
  unfold setSp; split <;> simp_all
@[simp] theorem setSp_tl (k : Nat) (b : Byte) : (setSp k b s).tl = if k = 3 then b else s.tl := by
  unfold setSp; split <;> simp_all
@[simp] theorem setSp_cfg (k : Nat) (b : Byte) : (setSp k b s).cfg = if k = 4 then b else s.cfg := by
  unfold setSp; split <;> simp_all
@[simp] theorem setSp_par (k : Nat) (b : Byte) : (setSp k b s).par = s.par := by
  unfold setSp; split <;> rfl
@[simp] theorem setSp_auto (k : Nat) (b : Byte) : (setSp k b s).auto = s.auto := by
  unfold setSp; split <;> rfl
@[simp] theorem setSp_conv (k : Nat) (b : Byte) : (setSp k b s).conv = s.conv := by
  unfold setSp; split <;> rfl
@[simp] theorem setSp_fatal (k : Nat) (b : Byte) : (setSp k b s).fatal = s.fatal := by
  unfold setSp; split <;> rfl
@[simp] theorem setSp_cause (k : Nat) (b : Byte) : (setSp k b s).cause = s.cause := by
  unfold setSp; split <;> rfl
@[simp] theorem setSp_tmr (k : Nat) (b : Byte) : (setSp k b s).tmr = s.tmr := by
  unfold setSp; split <;> rfl
@[simp] theorem setSp_seq (k : Nat) (b : Byte) : (setSp k b s).seq = s.seq := by
  unfold setSp; split <;> rfl
@[simp] theorem setSp_idx (k : Nat) (b : Byte) : (setSp k b s).idx = s.idx := by
  unfold setSp; split <;> rfl
@[simp] theorem setSp_params (k : Nat) (b : Byte) : (setSp k b s).params = s.params := by
  unfold setSp; split <;> rfl
@[simp] theorem setSp_bus (k : Nat) (b : Byte) : (setSp k b s).bus = s.bus := by
  unfold setSp; split <;> rfl
@[simp] theorem setSp_inputs (k : Nat) (b : Byte) : (setSp k b s).inputs = s.inputs := by
  unfold setSp; split <;> rfl
@[simp] theorem setSp_rsp (k : Nat) (b : Byte) : (setSp k b s).rsp = s.rsp := by
  unfold setSp; split <;> rfl
@[simp] theorem setSp_trace (k : Nat) (b : Byte) : (setSp k b s).trace = s.trace := by
  unfold setSp; split <;> rfl

end Sys2Proof.Machine
end

