-- ==== Sys2Proof/Laws/Ops.lean ====
section
/-!
SUPPORT. What each shared operation does, said once: the oracle's answers, the bus primitives in closed form, the timer,
and the gate.
-/

namespace Sys2Proof.Machine

/-! ### The oracle -/

theorem Script.nth_drop {α : Type} (free : Nat → α) (c : Script α) (n k : Nat) :
    (c.drop n).nth free k = c.nth free (n + k) := by
  simp [Script.nth, Script.drop, Nat.add_assoc, List.getD]

@[simp] theorem Script.drop_zero {α : Type} (c : Script α) : c.drop 0 = c := rfl

@[simp] theorem Script.drop_drop {α : Type} (c : Script α) (m n : Nat) : (c.drop m).drop n = c.drop (m + n) := by
  simp [Script.drop, Nat.add_assoc]

/-- The bytes still to come after `resets`, `bytes` and `bits` answers. -/
@[simp] theorem Bus.byte_skip (b : Bus) (r m t k : Nat) : (b.skip r m t).byte k = b.byte (m + k) :=
  Script.nth_drop _ _ _ _

@[simp] theorem Bus.bit_skip (b : Bus) (r m : Nat) : (b.skip r m 0).bit = b.bit := rfl

@[simp] theorem Bus.session_skip (b : Bus) (r m t : Nat) : (b.skip r m t).session = b.session := rfl

@[simp] theorem Bus.candidates_skip (b : Bus) (r m t : Nat) : (b.skip r m t).candidates = b.candidates := rfl

@[simp] theorem Bus.skip_zero (b : Bus) : b.skip 0 0 0 = b := rfl

@[simp] theorem Bus.skip_skip (b : Bus) (r m t r' m' t' : Nat) :
    (b.skip r m t).skip r' m' t' = b.skip (r + r') (m + m') (t + t') := by
  simp [Bus.skip]

/-- The bytes do not depend on the enumerations. -/
@[simp] theorem Bus.byte_enum (b : Bus) (l : List Addr) (c : Script (List Addr)) (k : Nat) :
    ({ b with candidates := l, sessions := c } : Bus).byte k = b.byte k := rfl

@[simp] theorem Bus.bit_enum (b : Bus) (l : List Addr) (c : Script (List Addr)) :
    ({ b with candidates := l, sessions := c } : Bus).bit = b.bit := rfl

/-- The read events depend on the bytes still to come only. -/
theorem readEvents_congr {b b' : Bus} (h : b'.bytes = b.bytes) (m : Nat) : readEvents b' m = readEvents b m := by
  simp [readEvents, Bus.byte, h]

theorem spreadTrace_congr {b b' : Bus} (h : b'.bytes = b.bytes) (p : Params) (a : Addr) (n : Nat) :
    spreadTrace p a b' n = spreadTrace p a b n := by
  rw [spreadTrace, readEvents_congr h, spreadTrace]

/-! ### The bus primitives -/

theorem busReset_eq (s : State) :
    busReset s = { s with bus := s.bus.skip 1 0 0, trace := s.trace ++ [.reset] } := rfl

theorem enumReset_eq (s : State) :
    enumReset s = { s with
      bus := { s.bus with candidates := s.bus.session, sessions := s.bus.sessions.drop 1 }
      trace := s.trace ++ [.enumReset] } := rfl

theorem busSelect_eq (s : State) : busSelect s = { s with trace := s.trace ++ [.select s.addr] } := rfl

theorem busSkip_eq (s : State) : busSkip s = { s with trace := s.trace ++ [.skip] } := rfl

theorem busWrite_eq (item : WireItem) (s : State) :
    busWrite item s = { s with trace := s.trace ++ [.write (wireByte s item) (holdBit s item)] } := rfl

theorem busReadByte_eq (s : State) :
    busReadByte s = (s.bus.byte 0,
      { s with bus := s.bus.skip 0 1 0, trace := s.trace ++ [.readByte (s.bus.byte 0)] }) := rfl

theorem busReadBit_eq (s : State) :
    busReadBit s = (s.bus.bit,
      { s with bus := s.bus.skip 0 0 1, trace := s.trace ++ [.readBit s.bus.bit] }) := rfl

/-- `EnumNext()` when the enumeration has no candidate left: `found` = 0. -/
theorem enumNext_nil {s : State} (h : s.bus.candidates = []) :
    enumNext s = (none, { s with trace := s.trace ++ [.enumNext none] }) := by
  simp [enumNext, transact, Bus.answer, h, eventOf, emit]

/-- `EnumNext()` when the enumeration has a candidate: it is found. -/
theorem enumNext_cons {s : State} {a : Addr} {rest : List Addr} (h : s.bus.candidates = a :: rest) :
    enumNext s = (some a, { s with
      bus := { s.bus with candidates := rest }
      trace := s.trace ++ [.enumNext (some a)] }) := by
  simp [enumNext, transact, Bus.answer, h, eventOf, emit]

/-! ### The gate -/

/-- The gate looks at the parameters and the address only. -/
theorem good_congr {s t : State} (hp : t.params = s.params) (ha : t.addr = s.addr) : good t = good s := by
  simp [good, outcome, hp, ha]

theorem status_congr {s t : State} (hp : t.params = s.params) (ha : t.addr = s.addr) : status t = status s := by
  simp [status, outcome, hp, ha]

/-- A response of a Good address has `rsp_st` = 0. -/
theorem status_of_good {s : State} (h : good s = true) : status s = 0 := by
  simp only [good, beq_iff_eq] at h
  simp [status, h, Validation.code]

theorem validate_of_good {s : State} (h : good s = true) : validate s.params s.addr = .good := by
  simpa [good, outcome] using h

/-- `VALIDATE` gives Good exactly when the CRC-8 agrees and the model is supported. -/
theorem validate_good_iff (p : Params) (a : Addr) :
    validate p a = .good ↔ p.crc8.apply a.body = a.b7 ∧ (a.b0 = p.modelA ∨ a.b0 = p.modelB ∨ a.b0 = p.modelC) := by
  unfold validate supportedModel
  by_cases h : p.crc8.apply a.body = a.b7 <;> simp [h]
  tauto

/-- The zero address is never Good in a core whose parameters meet their constraints (rule R10). -/
theorem validate_zero {p : Params} (h : p.WF) : validate p Addr.zero ≠ .good := fun hg =>
  h.zero ((validate_good_iff p Addr.zero).mp hg)

/-! ### Levels and patterns -/

/-- Every level written has a level. -/
theorem levelOfCfg_cfgOfLevel (p : Params) (level : Nat) : levelOfCfg p (cfgOfLevel p level) ≠ none := by
  unfold cfgOfLevel levelOfCfg
  split <;> repeat' split
  all_goals simp_all

/-- The integer a level is normalized to has the same pattern (spec/45_resolution.md rule R183). -/
theorem cfgOfLevel_normalLevel (p : Params) (level : Nat) : cfgOfLevel p (normalLevel level) = cfgOfLevel p level := by
  unfold normalLevel
  split
  · rfl
  · unfold cfgOfLevel
    split <;> simp_all
    split <;> simp_all

/-! ### A full read -/

/-- A read of 5 bytes or more refreshes the configuration byte. -/
theorem cfg_afterSpread {n : Nat} (h : 5 ≤ n) (s : State) : (afterSpread n s).cfg = s.bus.byte 4 := if_pos h

end Sys2Proof.Machine
end

