-- ==== Sys2Proof/Laws/Sequences.lean ====
section
/-!
SUPPORT. What each gated sequence does when its gate is open, in closed form, and that it does nothing when it is closed.
-/

namespace Sys2Proof.Machine

/-! ### `M_SPREAD(n)` -/

/-- The read loop takes `m` bytes and leaves their events. -/
theorem readBytes_trace (m k : Nat) (s : State) :
    (readBytes m k s).trace = s.trace ++ readEvents s.bus m ∧ (readBytes m k s).bus = s.bus.skip 0 m 0 := by
  induction m generalizing k s with
  | zero => simp [readBytes, readEvents]
  | succ m ih =>
    obtain ⟨ht, hb⟩ := ih (k + 1) (setSp k (busReadByte s).1 (busReadByte s).2)
    rw [readBytes, ht, hb]
    simp [busReadByte_eq, readEvents, List.range_succ_eq_map, Nat.add_comm]

/-- The read loop from position 0 puts the bytes into the image. -/
theorem readBytes_eq {m : Nat} (hm : m ≤ 8) (s : State) :
    readBytes m 0 s = { imageRead m s with
      bus := s.bus.skip 0 m 0
      trace := s.trace ++ readEvents s.bus m } := by
  interval_cases m <;>
    simp [readBytes, busReadByte_eq, setSp, imageRead, readEvents, List.range_succ]

theorem spreadFrame_eq (n : Nat) (s : State) :
    spreadFrame n s = afterSpread n s := by
  have hi : imageRead (min n 8) s = imageRead n s := by simp [imageRead]
  rw [spreadFrame, clampRead, readBytes_eq (Nat.min_le_right n 8)]
  simp [afterSpread, busReset_eq, busSelect_eq, busWrite_eq, wireByte, holdBit, spreadTrace, imageRead, readEvents]

theorem spread_good {s : State} (h : good s = true) (n : Nat) : spread n s = afterSpread n s := by
  rw [spread, if_pos h, spreadFrame_eq]

theorem spread_closed {s : State} (h : good s = false) (n : Nat) : spread n s = s := by simp [spread, h]

/-! ### `M_SPWRITE` -/

theorem spwrite_good {s : State} (h : good s = true) :
    spwrite s = { s with
      tmr := if s.par then 0 else s.tmr
      bus := s.bus.skip 3 0 0
      trace := s.trace ++ spwriteTrace s.params s.addr s.th s.tl s.cfg s.par } := by
  rw [spwrite, if_pos h]
  cases hp : s.par <;>
    simp [spwriteFrame, writeData, settle, delay, timerExpires, loadTimer, emit, busReset_eq, busSelect_eq, busWrite_eq,
      wireByte, holdBit, spwriteTrace, hp]

theorem spwrite_closed {s : State} (h : good s = false) : spwrite s = s := by simp [spwrite, h]

/-! ### `M_PWRDETECT` -/

theorem pwrDetect_good {s : State} (h : good s = true) :
    pwrDetect s = { s with
      par := !s.bus.bit
      bus := s.bus.skip 1 0 1
      trace := s.trace ++ powerTrace s.params s.addr s.bus.bit } := by
  rw [pwrDetect, if_pos h]
  simp [pwrDetectFrame, busReset_eq, busSelect_eq, busWrite_eq, busReadBit_eq, wireByte, holdBit, powerTrace, setPar,
    parOfBit]

theorem pwrDetect_closed {s : State} (h : good s = false) : pwrDetect s = s := by simp [pwrDetect, h]

/-! ### `M_CONVSTART` -/

theorem convStart_good {s : State} (h : good s = true) :
    convStart s = { s with
      conv := .ready
      tmr := 0
      bus := s.bus.skip 1 0 0
      trace := s.trace ++ convTrace s.params s.addr s.cfg s.par } := by
  rw [convStart, if_pos h]
  simp [convStartFrame, convDelay, delay, timerExpires, loadTimer, emit, setConv, busReset_eq, busSelect_eq, busWrite_eq,
    wireByte, holdBit, convTrace]

theorem convStart_closed {s : State} (h : good s = false) : convStart s = s := by simp [convStart, h]

/-! ### `M_TEMPREAD` -/

theorem tempRead_good {s : State} (h : good s = true) : tempRead s = afterTempRead s := by
  rw [tempRead, if_pos h, tempReadFrame]
  cases ha : s.auto
  · simp [spread_good h, afterSpread, afterTempRead, imageRead, setConv, tempTrace, ha]
  · have hg : good (convStart s) = true := by
      rw [convStart_good h]; exact (good_congr rfl rfl).trans h
    rw [if_pos rfl, spread_good hg, convStart_good h]
    simp [afterSpread, afterTempRead, imageRead, setConv, tempTrace, ha, spreadTrace, readEvents, convTrace]

theorem tempRead_closed {s : State} (h : good s = false) : tempRead s = s := by simp [tempRead, h]

/-! ### Discovery -/

/-- The loop passes over the candidates before the wanted one: those that are not Good are not counted. -/
theorem discoverLoop_pass {s : State} {pre post : List Addr} {count turns : Nat}
    (hc : s.bus.candidates = pre ++ post) (hn : count + countGood s.params pre ≤ s.idx) :
    discoverLoop (pre.length + turns) count s =
      discoverLoop turns (count + countGood s.params pre)
        { s with
          bus := { s.bus with candidates := post }
          trace := s.trace ++ foundEvents pre } := by
  induction pre generalizing s count with
  | nil =>
    simp only [List.nil_append] at hc
    subst hc
    simp [countGood, foundEvents]
  | cons a pre ih =>
    rw [List.length_cons, Nat.add_right_comm, discoverLoop, enumNext_cons hc]
    by_cases hg : validate s.params a = .good
    · have hcount : countGood s.params (a :: pre) = countGood s.params pre + 1 := by simp [countGood, hg]
      rw [hcount] at hn ⊢
      have hlt : count ≠ s.idx := by omega
      simp only [hg, hlt, if_true, if_false]
      rw [ih rfl (by simp only; omega)]
      simp [foundEvents, Nat.add_assoc, Nat.add_comm 1]
    · have hcount : countGood s.params (a :: pre) = countGood s.params pre := by simp [countGood, hg]
      rw [hcount] at hn ⊢
      simp only [hg, if_false]
      rw [ih rfl (by simpa using hn)]
      simp [foundEvents]

/-- RESET finds the device: the candidate after which enough Good ones have been counted. -/
theorem discover_found {s : State} {pre post : List Addr} {a : Addr} (hs : s.bus.session = pre ++ a :: post)
    (ha : validate s.params a = .good) (hn : countGood s.params pre = s.idx) :
    discover s = { s with
      addr := a
      bus := { s.bus with candidates := post, sessions := s.bus.sessions.drop 1 }
      trace := s.trace ++ .enumReset :: foundEvents (pre ++ [a]) } := by
  have hlen : (enumReset s).bus.candidates.length + 1 = pre.length + (post.length + 2) := by
    simp [enumReset_eq, hs]; omega
  have hcount : 0 + countGood (enumReset s).params pre = (enumReset s).idx := by simpa [enumReset_eq] using hn
  rw [discover]
  simp only [hlen]
  rw [discoverLoop_pass (s := enumReset s) (pre := pre) (post := a :: post) hs hcount.le, hcount, discoverLoop,
    enumNext_cons rfl]
  simp [enumReset_eq, ha, setAddr, foundEvents]

/-- RESET does not find the device: too few Good candidates. -/
theorem discover_none {s : State} (hn : countGood s.params s.bus.session ≤ s.idx) :
    discover s = { s with
      bus := { s.bus with candidates := [], sessions := s.bus.sessions.drop 1 }
      trace := s.trace ++ .enumReset :: foundEvents s.bus.session ++ [.enumNext none] } := by
  have hlen : (enumReset s).bus.candidates.length = s.bus.session.length := rfl
  rw [discover]
  simp only [hlen]
  rw [discoverLoop_pass (s := enumReset s) (pre := s.bus.session) (post := []) (by simp [enumReset_eq])
    (by simpa [enumReset_eq] using hn), discoverLoop, enumNext_nil rfl]
  simp [enumReset_eq]

end Sys2Proof.Machine
end

