-- ==== Sys2Proof/Laws/Commands.lean ====
section
/-!
SUPPORT. The commands that go through a gated sequence in closed form, and what the end of a command leaves alone.
-/

namespace Sys2Proof.Machine

/-- The state SETRES leaves before its answer, the address being Good. -/
def afterSetres (level : Nat) (s : State) : State :=
  { afterSpread s.params.nFull s with
    cfg := cfgOfLevel s.params level
    tmr := if s.par then 0 else s.tmr
    bus := s.bus.skip 5 (min s.params.nFull 8) 0
    trace := s.trace ++ spreadTrace s.params s.addr s.bus s.params.nFull ++
      spwriteTrace s.params s.addr (imageRead s.params.nFull s).th (imageRead s.params.nFull s).tl
        (cfgOfLevel s.params level) s.par }

theorem exec_gettc (s : State) :
    exec .gettc s = .next (answerCelsius (if good s = true then afterTempRead s else s)) := by
  simp only [exec, execGettc]
  by_cases h : good s = true
  · rw [tempRead_good h, if_pos h]
  · rw [tempRead_closed (by simpa using h), if_neg h]

theorem exec_gettf (s : State) :
    exec .gettf s = .next (answerFahrenheit (if good s = true then afterTempRead s else s)) := by
  simp only [exec, execGettf]
  by_cases h : good s = true
  · rw [tempRead_good h, if_pos h]
  · rw [tempRead_closed (by simpa using h), if_neg h]

theorem exec_getres (s : State) :
    exec .getres s = .next (answerLevel (if good s = true then afterSpread s.params.nFull s else s)) := by
  simp only [exec, execGetres]
  by_cases h : good s = true
  · rw [spread_good h, if_pos h]
  · rw [spread_closed (by simpa using h), if_neg h]

theorem exec_setres (level : Nat) (s : State) :
    exec (.setres level) s = .next (answerWritten (if good s = true then afterSetres level s else s)) := by
  simp only [exec, execSetres]
  by_cases h : good s = true
  · have hg : good (setLevel level (afterSpread s.params.nFull s)) = true := (good_congr rfl rfl).trans h
    rw [if_pos h, if_pos h, setresFrame, spread_good h, spwrite_good hg]
    simp [afterSetres, setLevel, setCfg, afterSpread, imageRead]
    rfl
  · rw [if_neg h, if_neg h]

/-- Every command's meaning answers a next state. -/
theorem exec_next (i : Instr) (s : State) : ∃ t, exec i s = .next t := by
  cases i <;> exact ⟨_, rfl⟩

/-! ### The end of a command -/

/-- A temperature read ends with a record, or in Fatal without one. -/
theorem answerTemp_ends (unit : Int → Int) (s : State) :
    (∃ r, answerTemp unit s = { s with rsp := some r }) ∨ ∃ c, answerTemp unit s = raiseFatal c s := by
  unfold answerTemp
  split
  · split
    · exact .inl ⟨_, rfl⟩
    · exact .inr ⟨_, rfl⟩
  · exact .inl ⟨_, rfl⟩

/-- GETRES ends with a record, or in Fatal without one. -/
theorem answerLevel_ends (s : State) :
    (∃ r, answerLevel s = { s with rsp := some r }) ∨ ∃ c, answerLevel s = raiseFatal c s := by
  unfold answerLevel
  split
  · exact .inl ⟨_, rfl⟩
  · exact .inr ⟨_, rfl⟩

/-- SETRES ends with a record. -/
theorem answerWritten_ends (s : State) : ∃ r, answerWritten s = { s with rsp := some r } := by
  unfold answerWritten
  split <;> exact ⟨_, rfl⟩

/-- On a Good address `DECODE` raises no MODEL_NO_DECODE (spec/44_temperature.md rule R168). -/
theorem decodeNow_of_good {s : State} {c : Cause} (h : good s = true) (hd : decodeNow s = .fatal c) :
    c = .cfgUnrecognized := by
  have hm := ((validate_good_iff _ _).mp (validate_of_good h)).2
  unfold decodeNow decodeTemp at hd
  split at hd
  · cases hd
  · split at hd
    · split at hd <;> simp_all
    · tauto

end Sys2Proof.Machine
end

