-- ==== Sys2Proof/Laws/Crc8.lean ====
section
/-!
SUPPORT. The reference CRC-8 detects every single-bit flip, and the reference parameters meet their constraints
(spec/00_scope.md rules R8, R9 and R10).
-/

namespace Sys2Proof

/-- The turn that undoes `crcShift`. -/
def crcUnshift (crc : Byte) : Byte :=
  if crc.getLsbD 7 then ((crc ^^^ 0x8C) <<< 1) ||| 1 else crc <<< 1

theorem crcUnshift_crcShift : ∀ crc : Byte, crcUnshift (crcShift crc) = crc := by decide

theorem crcShift_injective : Function.Injective crcShift :=
  Function.LeftInverse.injective crcUnshift_crcShift

/-- Two running values or two bytes that differ, with the other equal, give running values that differ. -/
theorem crcByte_injective {c c' b b' : Byte} (h : crcByte c b = crcByte c' b') : c ^^^ b = c' ^^^ b' := by
  unfold crcByte at h
  iterate 8 replace h := crcShift_injective h
  exact h

theorem crcByte_left {c c' : Byte} (b : Byte) (h : c ≠ c') : crcByte c b ≠ crcByte c' b := fun he =>
  h (by simpa using crcByte_injective he)

theorem crcByte_right (c : Byte) {b b' : Byte} (h : b ≠ b') : crcByte c b ≠ crcByte c b' := fun he =>
  h (by simpa using crcByte_injective he)

theorem foldl_crcByte_ne {c c' : Byte} (h : c ≠ c') (m : List Byte) : m.foldl crcByte c ≠ m.foldl crcByte c' := by
  induction m generalizing c c' with
  | nil => exact h
  | cons b m ih => exact ih (crcByte_left b h)

theorem flipped_ne : ∀ (b : Byte) {k : Nat}, k < 8 → b ^^^ BitVec.twoPow 8 k ≠ b := by
  intro b k hk h
  have h0 : BitVec.twoPow 8 k = 0#8 := by
    have := congrArg (b ^^^ ·) h
    simpa [← BitVec.xor_assoc] using this
  have := congrArg (·.getLsbD k) h0
  simp [hk] at this

theorem foldl_crcByte_flip (m : List Byte) (c : Byte) {i k : Nat} (hi : i < m.length) (hk : k < 8) :
    (flipBit m i k).foldl crcByte c ≠ m.foldl crcByte c := by
  induction m generalizing c i with
  | nil => simp at hi
  | cons b m ih =>
    cases i with
    | zero => exact foldl_crcByte_ne (crcByte_right c (flipped_ne b hk)) m
    | succ i => exact ih (crcByte c b) (by simpa using hi)

/-- The reference CRC-8 detects every single-bit flip of 7 bytes (rule R9). -/
theorem crcReference_detects : Crc8.reference.DetectsFlips := fun m hm i _ hi hk =>
  foldl_crcByte_flip m 0 (i := i) (by omega) hk

/-- The reference parameters meet the constraints of rules R8 to R10. -/
theorem Params.reference_wf : Params.reference.WF where
  models := by decide
  commands := by decide
  patterns := by decide
  detects := crcReference_detects
  zero := fun h => absurd h.2 (by decide)
  sentinel := by decide
  fullRead := by decide
  indexWidth := by decide

end Sys2Proof
end

