-- ==== Sys2Proof/Laws/PerInstr.lean ====
section
/-!
SUPPORT. One lemma per command: the two fields of its word hold its operation code and its operand (spec/30_encoding.md
rules R71 and R73).
-/

namespace Sys2Proof.Laws.EncodedFields

/-- The field `op` of the encoded word is the command's operation code, and the field `arg` its operand. -/
def Statement (i : Instr) : Prop := opField (encode i) = opcodeOf i ∧ argField (encode i) = BitVec.ofNat 8 (operandOf i)

theorem of_fields (i : Instr) : Statement i := by
  constructor
  · exact BitVec.extractLsb'_append_eq_left
  · exact BitVec.extractLsb'_append_eq_right

theorem begin : Statement .begin := of_fields _
theorem reset : Statement .reset := of_fields _
theorem isvalid : Statement .isvalid := of_fields _
theorem gettc : Statement .gettc := of_fields _
theorem gettf : Statement .gettf := of_fields _
theorem ispara : Statement .ispara := of_fields _
theorem getres : Statement .getres := of_fields _
theorem setres (level : Nat) : Statement (.setres level) := of_fields _
theorem reqbc : Statement .reqbc := of_fields _
theorem waitcv : Statement .waitcv := of_fields _
theorem getaddr : Statement .getaddr := of_fields _
theorem sprd (n : Nat) : Statement (.sprd n) := of_fields _
theorem spwr : Statement .spwr := of_fields _

end Sys2Proof.Laws.EncodedFields
end

