-- ==== Sys2Proof/Laws/Step.lean ====
section
/-!
SUPPORT. What a step can do, said once, and the frame of one step of the sequencer.
-/

namespace Sys2Proof.Machine

/-! ### The sequencer -/

/-- A command ends with a record, or in Fatal without one. -/
theorem finishCommand_ends (i : Instr) (s : State) :
    (∃ r, finishCommand i s = { s with rsp := some r }) ∨ ∃ c, finishCommand i s = raiseFatal c s := by
  cases i with
  | gettc => exact answerTemp_ends _ s
  | gettf => exact answerTemp_ends _ s
  | getres => exact answerLevel_ends s
  | setres _ => exact .inl (answerWritten_ends s)
  | _ => exact .inl ⟨_, rfl⟩

/-- A step of the sequencer writes neither the parameters, nor `IDX`, nor the inputs, nor `SEQ` itself. -/
theorem microStep_frame (i : Instr) (m : Micro) (rest : List Micro) (s : State) :
    (microStep i m rest s).2.params = s.params ∧ (microStep i m rest s).2.idx = s.idx ∧
      (microStep i m rest s).2.inputs = s.inputs ∧ (microStep i m rest s).2.seq = s.seq := by
  cases m with
  | enumNext count =>
    simp only [microStep, discoverTurn]
    rcases hc : s.bus.candidates with _ | ⟨a, l⟩
    · simp [enumNext_nil hc]
    · rw [enumNext_cons hc]
      simp only
      split <;> (try split) <;> simp [setAddr]
  | settle => cases hp : s.par <;> simp [microStep, hp]
  | finish =>
    obtain ⟨_, h⟩ | ⟨_, h⟩ := finishCommand_ends i s <;> simp [microStep, h]
  | readByte k => simp [microStep, busReadByte_eq]
  | _ => exact ⟨rfl, rfl, rfl, rfl⟩

/-- The sequencer writes neither the parameters, nor `IDX`, nor the inputs. -/
theorem advance_frame (s : State) :
    (advance s).params = s.params ∧ (advance s).idx = s.idx ∧ (advance s).inputs = s.inputs := by
  unfold advance
  split
  · split
    · exact ⟨rfl, rfl, rfl⟩
    · exact ⟨rfl, rfl, rfl⟩
    · split
      · exact ⟨rfl, rfl, rfl⟩
      · exact ⟨(microStep_frame _ _ _ _).1, (microStep_frame _ _ _ _).2.1, (microStep_frame _ _ _ _).2.2.1⟩
  · exact ⟨rfl, rfl, rfl⟩

/-- The response cycle: one step, which leaves the core idle (spec/30_encoding.md rule R70). -/
theorem advance_responding {s : State} (h : s.seq = .responding) (ht : s.tmr = 0) :
    advance s = { s with seq := .idle } := by
  simp only [advance, ht, h, if_true]

/-! ### The step -/

/-- What a step that answers a next state can have done: a hardware reset, or, in a core that is not Fatal, one of the
following: the whole of a legal command, the whole of an illegal word or its response cycle, the beginning of a command's
sequence, one step of the sequence in progress (its input, a clock, gone by or left waiting), or nothing. -/
theorem step_cases {s t : State} (h : step s = .next t) :
    (∃ k, s.inputs.head? = some (.hwReset k) ∧ t = hardwareReset k (takeInput s)) ∨
    (s.fatal = false ∧
      ((s.seq = .idle ∧ ∃ i, exec i (takeInput s) = .next t) ∨
       (s.seq = .idle ∧ t = respondIllegal (takeInput s)) ∨
       (s.seq = .idle ∧ t = beginIllegalResponse (takeInput s)) ∨
       (s.seq = .idle ∧ ∃ i, t = beginSequence i (takeInput s)) ∨
       (s.seq ≠ .idle ∧ (t = advance s ∨ t = advance (dropInput s))) ∨
       (s.seq = .idle ∧ t = takeInput s))) := by
  simp only [step, nextAction] at h
  rcases hh : s.inputs.head? with _ | (w | w | _ | k) <;> rw [hh] at h
  · cases hf : s.fatal <;> by_cases hi : s.seq = .idle <;> simp_all [unlessFatal]
  · cases hf : s.fatal <;> by_cases hi : s.seq = .idle <;> simp_all [unlessFatal, acceptCommand]
    cases hd : decode w <;> simp_all
    exact .inl ⟨_, h⟩
  · cases hf : s.fatal <;> by_cases hi : s.seq = .idle <;> simp [unlessFatal, acceptStart, hf, hi] at h ⊢
    · cases hd : decode w with
      | ok i =>
        rw [hd] at h
        exact .inr (.inr (.inr (.inl ⟨i, (Host.Outcome.next.inj h).symm⟩)))
      | error e =>
        rw [hd] at h
        exact .inr (.inr (.inl (Host.Outcome.next.inj h).symm))
    · exact .inl h.symm
  · cases hf : s.fatal <;> by_cases hi : s.seq = .idle <;> simp [unlessFatal, hf, hi] at h ⊢
    · exact .inr (.inr (.inr (.inr h.symm)))
    · exact .inr h.symm
  · exact .inl ⟨k, rfl, (Host.Outcome.next.inj h).symm⟩

end Sys2Proof.Machine
end

