-- ==== Sys2Proof/Tests/Slice0.lean ====
section
/-!
SUPPORT. The model's own tests, each of one step at most, and for every statement with hypotheses a witness that meets
them. Expected values are those of spec/95_test_vectors.md, whose identifiers the comments give, or are worked by hand
from the rule named.
-/

namespace Sys2Proof.Tests

open Sys2Proof.Machine

set_option maxRecDepth 100000

/-! ### The ingredients of spec/95_test_vectors.md -/

def a1 : Addr := ⟨0x28, 0xFF, 0x4C, 0x60, 0x91, 0x16, 0x03, 0x37⟩
def b1 : Addr := ⟨0x10, 0x01, 0x02, 0x03, 0x04, 0x05, 0x06, 0x7B⟩
def c1 : Addr := ⟨0x22, 0xAA, 0xBB, 0xCC, 0xDD, 0xEE, 0xFF, 0x87⟩
def x1 : Addr := ⟨0x26, 0x11, 0x22, 0x33, 0x44, 0x55, 0x66, 0x29⟩
def a1bad : Addr := ⟨0x28, 0xFF, 0x4C, 0x60, 0x91, 0x16, 0x03, 0x36⟩

/-- A Bus Transport that answers with these candidates, bytes and this power-supply bit. -/
def transport (candidates : List Addr) (bytes : List Byte) (bit : Bool) : Bus :=
  { Bus.unknown with sessions := ⟨[candidates], 0⟩, bytes := ⟨bytes, 0⟩, bits := ⟨[bit], 0⟩ }

/-- A device's scratchpad with the configuration byte `cfg`. -/
def scratchpad (cfg : Byte) : List Byte := [0x90, 0x01, 0x4B, 0x46, cfg, 0xFF, 0x0C, 0x10]

/-- A core with the address `a` and the configuration byte `cfg`, its other image bytes at the values of the vectors'
start states, and a device that answers with the bytes. -/
def device (a : Addr) (cfg : Byte) (auto : Bool) (bytes : List Byte) : State :=
  { State.reset with addr := a, cfg := cfg, par := false, auto := auto, bus := transport [] bytes true }

/-- The same, with the image 90 01 4B 46 and the configuration byte. -/
def cached (cfg : Byte) (par : Bool) : State :=
  { State.reset with addr := a1, tLsb := 0x90, tMsb := 0x01, th := 0x4B, tl := 0x46, cfg := cfg, par := par }

/-- A core that has just been reset, with the position index and the candidates its transport is going to give. -/
def fresh (idx : Nat) (candidates : List Addr) : State :=
  { State.reset with idx := idx, bus := transport candidates (scratchpad 0x7F) true }

/-- A core without a device, in per-device mode (program P4). -/
def absent : State := { State.reset with auto := true }

/-- A core that has gone Fatal (vector V-FAT-1). -/
def dead : State := { cached 0xFF false with fatal := true, cause := .cfgUnrecognized }

/-- A core in the delay of a conversion that WAITCV waits for. -/
def waiting : State := { cached 0x7F false with seq := .busy .waitcv [.setConv .ready, .finish], tmr := 751 }

/-- A core in the response cycle of GETRES. -/
def answering : State := { cached 0x7F false with seq := .responding, rsp := some ⟨false, 0, 12, 0⟩ }

/-- The next state, if that is the outcome. -/
def nextOf (o : Host.Outcome State Fault Refusal) : Option State :=
  match o with
  | .next t => some t
  | .fault _ => none
  | .refused _ => none

/-- The fault, if that is the outcome. -/
def faultOf (o : Host.Outcome State Fault Refusal) : Option Fault :=
  match o with
  | .next _ => none
  | .fault f => some f
  | .refused _ => none

/-- The image of a state. -/
def image (s : State) : List Byte := [s.tLsb, s.tMsb, s.th, s.tl, s.cfg]

/-- The response a command answers. -/
def answer (i : Instr) (s : State) : Option Response := (nextOf (exec i s)).bind State.rsp

/-- The trace a command leaves. -/
def traceOf (i : Instr) (s : State) : Option (List Event) := (nextOf (exec i s)).map State.trace

/-- The image a command leaves. -/
def imageOf (i : Instr) (s : State) : Option (List Byte) := (nextOf (exec i s)).map image

/-! ### Well-formed commands -/

/-- An operand the word cannot hold is refused (rule R73). -/
theorem test_illFormed_setres : Instr.wellFormed (.setres 256) = false := by decide
theorem test_illFormed_sprd : Instr.wellFormed (.sprd 256) = false := by decide
theorem test_wellFormed : Instr.wellFormed (.setres 255) = true ∧ Instr.wellFormed (.sprd 0) = true ∧
    Instr.wellFormed .begin = true := by decide

/-! ### Words -/

/-- Each word bit by bit from rules R71 and R72 (V-ENC-1 to V-ENC-18). -/
theorem test_decode_session : decode 0b000100000000 = .ok .begin ∧ decode 0b001000000000 = .ok .reset := by decide
theorem test_decode_validator : decode 0b001100000000 = .ok .isvalid ∧ decode 0b101100000000 = .ok .getaddr := by decide
theorem test_decode_temperature : decode 0b010000000000 = .ok .gettc ∧ decode 0b010100000000 = .ok .gettf := by decide
theorem test_decode_power : decode 0b011000000000 = .ok .ispara := by decide
theorem test_decode_resolution : decode 0b011100000000 = .ok .getres ∧ decode 0b100000001001 = .ok (.setres 9) ∧
    decode 0b100011111111 = .ok (.setres 255) ∧ decode 0b100000000000 = .ok (.setres 0) := by decide
theorem test_decode_conversion : decode 0b100100000000 = .ok .reqbc ∧ decode 0b101000000000 = .ok .waitcv := by decide
theorem test_decode_scratchpad : decode 0b110000000000 = .ok (.sprd 0) ∧ decode 0b110000000101 = .ok (.sprd 5) ∧
    decode 0b110011111111 = .ok (.sprd 255) ∧ decode 0b110100000000 = .ok .spwr := by decide

/-- V-ENC-19 to V-ENC-27. -/
theorem test_decode_reserved : decode 0x000 = .error (.reservedOp 0) ∧ decode 0x0FF = .error (.reservedOp 0) ∧
    decode 0xE00 = .error (.reservedOp 0xE) ∧ decode 0xF12 = .error (.reservedOp 0xF) := by decide
theorem test_decode_nonzeroArg : decode 0x301 = .error (.nonzeroArg 3 1) ∧ decode 0x1FF = .error (.nonzeroArg 1 0xFF) ∧
    decode 0x901 = .error (.nonzeroArg 9 1) ∧ decode 0xD80 = .error (.nonzeroArg 0xD 0x80) ∧
    decode 0x40C = .error (.nonzeroArg 4 0xC) := by decide

/-- V-ENC-8, V-ENC-14, V-ENC-17. -/
theorem test_encode : encode (.setres 9) = 0x809 ∧ encode .getaddr = 0xB00 ∧ encode (.sprd 255) = 0xCFF := by decide

theorem test_tableWord : decodeTableWord 16 0x80C = some (.setres 12) ∧ decodeTableWord 16 0x40C = none ∧
    decodeTableWord 16 0x1100 = none := by decide

/-- Rule R80: `SETRES 11` is 0x80B, in decimal and in hexadecimal, and an operand that does not fit is no line. -/
theorem test_assemble :
    assembleLine ['S', 'E', 'T', 'R', 'E', 'S', ' ', '1', '1'] = some 0x80B ∧
    assembleLine ['S', 'E', 'T', 'R', 'E', 'S', ' ', '0', 'x', 'B'] = some 0x80B ∧
    assembleLine ['G', 'E', 'T', 'T', 'C'] = some 0x400 ∧
    assembleLine ['S', 'P', 'R', 'D', ' ', '2', '5', '6'] = none := by decide

/-! ### The address validator -/

/-- The known check of spec/93_implementation_defined.md G4, and running values of spec/95_test_vectors.md 2.2. -/
theorem test_crc : crcReference [0x02, 0x1C, 0xB8, 0x01, 0x00, 0x00, 0x00] = 0xA2 ∧ crcReference [0x28] = 0xE1 ∧
    crcReference [0x28, 0xFF] = 0x82 ∧ crcReference [0xFF] = 0x35 ∧ crcReference [] = 0x00 := by decide

/-- V-VAL-1 to V-VAL-6. -/
theorem test_validate : validate Params.reference a1 = .good ∧ validate Params.reference b1 = .good ∧
    validate Params.reference c1 = .good ∧ validate Params.reference x1 = .invalidModel ∧
    validate Params.reference { x1 with b7 := 0x00 } = .invalidCrc ∧
    validate Params.reference Addr.zero = .invalidModel := by decide

/-- V-VAL-7, V-VAL-12, V-VAL-14. -/
theorem test_validate_flip : validate Params.reference { a1 with b0 := 0x29 } = .invalidCrc ∧
    validate Params.reference { a1 with b6 := 0x83 } = .invalidCrc ∧
    validate Params.reference { a1 with b0 := 0x10 } = .invalidCrc := by decide

/-- V-VAL-20, V-VAL-21. -/
theorem test_isvalid : answer .isvalid (cached 0x7F false) = some ⟨false, 0, 0, 0⟩ ∧
    answer .isvalid absent = some ⟨false, 2, 0, 0⟩ := by decide

/-- V-VAL-22, V-VAL-24. -/
theorem test_getaddr : answer .getaddr (cached 0x7F false) = some ⟨false, 0, 0, 0x37031691604CFF28⟩ ∧
    answer .getaddr absent = some ⟨false, 2, 0, 0⟩ := by decide

/-! ### The scratchpad -/

/-- V-SPR-3. -/
theorem test_sprd_two :
    traceOf (.sprd 2) (device a1 0x1F false (scratchpad 0x7F)) =
      some [.reset, .select a1, .write 0xBE false, .readByte 0x90, .readByte 0x01, .reset] ∧
    imageOf (.sprd 2) (device a1 0x1F false (scratchpad 0x7F)) = some [0x90, 0x01, 0x7D, 0xC9, 0x1F] := by decide

/-- V-SPR-7: eight bytes are read, not nine, and three of them are dropped. -/
theorem test_sprd_nine :
    traceOf (.sprd 9) (device a1 0x1F false (scratchpad 0x7F)) =
      some [.reset, .select a1, .write 0xBE false, .readByte 0x90, .readByte 0x01, .readByte 0x4B, .readByte 0x46,
        .readByte 0x7F, .readByte 0xFF, .readByte 0x0C, .readByte 0x10, .reset] ∧
    imageOf (.sprd 9) (device a1 0x1F false (scratchpad 0x7F)) = some [0x90, 0x01, 0x4B, 0x46, 0x7F] := by decide

/-- V-SPW-1. -/
theorem test_spwr_powered :
    traceOf .spwr (cached 0x7F false) =
      some [.reset, .select a1, .write 0x4E false, .write 0x4B false, .write 0x46 false, .write 0x7F false, .reset,
        .write 0x48 false, .reset] := by decide

/-- V-SPW-2. -/
theorem test_spwr_parasite :
    traceOf .spwr (cached 0x7F true) =
      some [.reset, .select a1, .write 0x4E false, .write 0x4B false, .write 0x46 false, .write 0x7F false, .reset,
        .write 0x48 true, .delay 10, .reset] := by decide

/-! ### Power mode and conversion -/

/-- V-PWR-2, V-PWR-3. -/
theorem test_ispara : answer .ispara (cached 0x7F true) = some ⟨false, 0, 1, 0⟩ ∧
    answer .ispara absent = some ⟨false, 2, 1, 0⟩ := by decide

/-- V-DLY-5, V-DLY-7, V-DLY-9. -/
theorem test_delay : [0, 8, 13, 255, -1].map delayOfLevel = [750, 750, 750, 750, 750] ∧
    delayOfCfg Params.reference 0x3F = 188 ∧ delayOfCfg Params.reference 0x9F = 750 := by decide

/-- The timer's load values (spec/95_test_vectors.md 2.5). -/
theorem test_loadTimer : (loadTimer 94 State.reset).tmr = 95 ∧ (loadTimer 750 State.reset).tmr = 751 := by decide

/-- V-CNV-3: not gated. -/
theorem test_reqbc : traceOf .reqbc absent = some [.reset, .skip, .write 0x44 true] ∧
    answer .reqbc absent = some ⟨false, 2, 0, 0⟩ ∧
    (nextOf (exec .reqbc absent)).map State.conv = some .requested := by decide

/-- V-CNV-4, V-CNV-5. -/
theorem test_waitcv : traceOf .waitcv (cached 0x5F false) = some [.delay 375] ∧
    traceOf .waitcv (cached 0xFF false) = some [.delay 750] ∧
    (nextOf (exec .waitcv (cached 0x5F false))).map State.conv = some .ready := by decide

/-! ### Temperature -/

/-- V-DEC-8 and V-DEC-4: the shift rounds down. -/
theorem test_decodeTemp_negative :
    [0x7F, 0x5F, 0x3F, 0x1F].map (fun c => decodeTemp Params.reference 0x28 c (rawReading 0xFF 0xFF)) =
      [.value (-1), .value (-2), .value (-4), .value (-8)] ∧
    decodeTemp Params.reference 0x22 0x1F (rawReading 0xFF 0x5E) = .value (-168) ∧
    decodeTemp Params.reference 0x10 0xFF (rawReading 0x80 0x00) = .value (-262144) := by decide

/-- V-DEC-22, V-DEC-24. -/
theorem test_decodeTemp_fatal : decodeTemp Params.reference 0x28 0x7E 0 = .fatal .cfgUnrecognized ∧
    decodeTemp Params.reference 0x26 0x7F 400 = .fatal .modelNoDecode := by decide

/-- V-TMP-3: per-device mode, at 9 bits and below zero. -/
theorem test_gettc_perDevice :
    traceOf .gettc (device a1 0x1F true [0x5E, 0xFF]) =
      some [.reset, .select a1, .write 0x44 false, .delay 94, .reset, .select a1, .write 0xBE false, .readByte 0x5E,
        .readByte 0xFF, .reset] ∧
    answer .gettc (device a1 0x1F true [0x5E, 0xFF]) = some ⟨false, 0, 0xFFFF58, 0⟩ := by decide

/-- V-TMP-9: Fatal after the whole path. -/
theorem test_gettc_fatal :
    (nextOf (exec .gettc (device a1 0x00 true [0x90, 0x01]))).map (fun t => (t.fatal, t.cause, t.rsp, t.trace.length)) =
      some (true, .cfgUnrecognized, none, 10) := by decide

/-- V-TMP-6. -/
theorem test_gettf : answer .gettf (device c1 0x3F false [0x5E, 0xFF]) = some ⟨false, 0, 1084, 0⟩ := by decide

/-- V-TMP-8: the sentinel is not transformed. -/
theorem test_gettf_sentinel : answer .gettf absent = some ⟨false, 2, 0x800000, 0⟩ ∧
    traceOf .gettf absent = some [] := by decide

/-! ### Resolution -/

/-- V-RES-3 and V-RES-7. -/
theorem test_getres : answer .getres (device a1 0x1F false (scratchpad 0x5F)) = some ⟨false, 0, 11, 0⟩ ∧
    answer .getres absent = some ⟨false, 2, 9, 0⟩ := by decide

/-- V-RES-5. -/
theorem test_getres_fatal :
    (nextOf (exec .getres (device a1 0x1F false (scratchpad 0xFF)))).map (fun t => (t.fatal, t.cause, t.rsp, image t)) =
      some (true, .cfgUnrecognized, none, [0x90, 0x01, 0x4B, 0x46, 0xFF]) := by decide

/-- V-RES-9: the alarm bytes written are the ones just read. -/
theorem test_setres :
    (traceOf (.setres 10) (device a1 0x1F false (scratchpad 0x7F))).map (List.drop 12) =
      some [.reset, .select a1, .write 0x4E false, .write 0x4B false, .write 0x46 false, .write 0x3F false, .reset,
        .write 0x48 false, .reset] ∧
    answer (.setres 10) (device a1 0x1F false (scratchpad 0x7F)) = some ⟨false, 0, 10, 0⟩ := by decide

/-- V-RES-16 with V-RES-15: an unrecognized byte on the device does not fault, and another integer gives 12. -/
theorem test_setres_normalizes :
    answer (.setres 255) (device a1 0x1F false (scratchpad 0xFF)) = some ⟨false, 0, 12, 0⟩ ∧
    imageOf (.setres 255) (device a1 0x1F false (scratchpad 0xFF)) = some [0x90, 0x01, 0x4B, 0x46, 0x7F] := by decide

/-! ### Session -/

/-- V-SES-2, the full trace. -/
theorem test_reset_trace :
    traceOf .reset (fresh 0 [x1, a1bad, a1]) =
      some [.enumReset, .enumNext (some x1), .enumNext (some a1bad), .enumNext (some a1), .reset, .select a1,
        .write 0xB4 false, .readBit true, .reset, .select a1, .write 0xBE false, .readByte 0x90, .readByte 0x01,
        .readByte 0x4B, .readByte 0x46, .readByte 0x7F, .readByte 0xFF, .readByte 0x0C, .readByte 0x10, .reset] := by
  decide

/-- V-SES-4 and V-SES-3: candidates that are not Good are not counted, and none is asked for after the wanted one. -/
theorem test_reset_index :
    (nextOf (exec .reset (fresh 2 [a1, x1, b1, a1bad, c1]))).map State.addr = some c1 ∧
    (nextOf (exec .reset (fresh 1 [a1, b1, c1]))).map (fun t => (t.addr, t.bus.candidates)) = some (b1, [c1]) := by decide

/-- V-SES-7: BEGIN sets AUTO although no device is found. -/
theorem test_begin_absent :
    (nextOf (exec .begin (fresh 0 [x1, a1bad]))).map (fun t => (t.addr, t.auto, t.par, image t, t.rsp)) =
      some (Addr.zero, true, true, [0x00, 0x00, 0x7D, 0xC9, 0x1F], some ⟨false, 2, 0, 0⟩) := by decide

/-- Program P1, command 1. -/
theorem test_begin_found :
    (nextOf (exec .begin (fresh 0 [a1]))).map (fun t => (t.addr, t.auto, t.par, image t, t.rsp)) =
      some (a1, true, false, [0x90, 0x01, 0x4B, 0x46, 0x7F], some ⟨false, 0, 0, 0⟩) := by decide

/-! ### The step -/

/-- The word put where a step takes its next one is the one it runs (V-RST-2: the first command after reset is GETTC). -/
theorem test_withFetchWord : (nextOf (step (State.reset.withFetchWord 16 0x400))).bind State.rsp =
    some ⟨false, 2, 0x800000, 0⟩ := by decide

/-- An illegal word is answered (V-ENC-24: 0x1FF does not set AUTO). -/
theorem test_step_illegal : (nextOf (step (State.reset.withFetchWord 16 0x1FF))).map (fun t => (t.auto, t.rsp)) =
    some (false, some ⟨true, 0, 0, 0⟩) := by decide

/-- V-FAT-2 and V-FAT-3. -/
theorem test_fatal : faultOf (step { dead with inputs := [.command 0x200] }) = some (.fatal .cfgUnrecognized) ∧
    (nextOf (step { dead with inputs := [.hwReset 3] })).map (fun t => (t.fatal, t.idx, t.addr, image t, cmdReady t)) =
      some (false, 3, Addr.zero, [0x00, 0x00, 0x7D, 0xC9, 0x1F], true) := by decide

/-- A tick goes by in a delay, and the command presented meanwhile waits (rules R29 and R239). -/
theorem test_step_busy :
    (nextOf (step { waiting with inputs := [.command 0x100] })).map (fun t => (t.tmr, t.auto, t.inputs)) =
      some (750, false, [.command 0x100]) := by decide

/-- The clock goes by in a delay: one tick, and the input is gone (rule R29). -/
theorem test_step_clock :
    (nextOf (step { waiting with inputs := [.clock, .hwReset 3] })).map (fun t => (t.tmr, t.inputs)) =
      some (750, [.hwReset 3]) := by decide

/-- In the response cycle `rsp_valid` is 1 and `cmd_ready` is 0, the word presented waits, and then it is the other way
round (rule R70). -/
theorem test_response_cycle :
    ((outPorts answering).rspValid, (outPorts answering).cmdReady) = (true, false) ∧
    (nextOf (step { answering with inputs := [.command 0x100] })).map
      (fun t => ((outPorts t).rspValid, (outPorts t).cmdReady, t.auto, t.inputs)) =
      some (false, true, false, [.command 0x100]) := by decide

/-- An illegal word run one step at a time has a response cycle too (rules R70 and R76). -/
theorem test_illegal_response_cycle :
    (nextOf (step { absent with inputs := [.start 0x1FF] })).map
      (fun t => ((outPorts t).rspErr, (outPorts t).rspValid, (outPorts t).cmdReady)) = some (true, true, false) := by decide

/-- A delay that a hardware reset cuts stands in the trace from its beginning (notes/assumptions/21). -/
theorem test_delay_event : (advance { cached 0x7F false with seq := .busy .waitcv [.convDelay, .finish] }).trace =
    [.delay 750] := by decide

/-- The core of the interface steps as the model does. -/
theorem test_core : core.reset = State.reset := rfl

/-! ### Witnesses

For each statement with hypotheses, states and operands that meet them together, at the bounds of their ranges. The
hypothesis that the parameters meet their constraints is met by `Params.reference_wf`. -/

theorem witness_DecodeOfEncodeIsTheCommand : Instr.wellFormed (.setres 0) = true ∧ Instr.wellFormed (.sprd 255) = true ∧
    Instr.wellFormed .spwr = true := by decide

theorem witness_EncodeOfDecodedWordIsTheWord : decode 0x100 = .ok .begin ∧ decode 0x8FF = .ok (.setres 255) := by decide

theorem witness_IllegalWordsAreRefusedWithAnAnswer :
    (Ready { absent with inputs := [.command 0x401] } ∧ ∃ e, decode 0x401 = .error e) ∧
    (Ready { absent with inputs := [.command 0xF00] } ∧ ∃ e, decode 0xF00 = .error e) :=
  ⟨⟨⟨rfl, rfl⟩, _, rfl⟩, ⟨rfl, rfl⟩, _, rfl⟩

theorem witness_OpcodeMapCoversEachLegalWordOnce :
    (∃ i, decode 0xCFF = .ok i) ∧ (∃ i, decode 0x100 = .ok i) ∧ (∃ e, decode 0x0FF = .error e) ∧
    (∃ e, decode 0x101 = .error e) :=
  ⟨⟨_, rfl⟩, ⟨_, rfl⟩, ⟨_, rfl⟩, _, rfl⟩

/-- The least and the greatest operand, and digits in small and in capital letters. -/
theorem witness_AssemblingALineGivesTheWord : Instr.wellFormed (.sprd 255) = true ∧ Instr.wellFormed .begin = true ∧
    (0 < 256 ∧ ['0'] = Nat.toDigits 16 0) ∧ (255 < 256 ∧ ['f', 'f'] = Nat.toDigits 16 255) ∧
    ['F', 'F'] = (Nat.toDigits 16 255).map Char.toUpper := by decide

theorem witness_StepRunsTheDecodedCommand :
    Ready { absent with inputs := [.command 0x8FF] } ∧ Ready { absent with inputs := [.start 0x8FF] } ∧
    decode 0x8FF = .ok (.setres 255) := ⟨⟨rfl, rfl⟩, ⟨rfl, rfl⟩, rfl⟩

theorem witness_FatalIsLeftByHardwareResetOnly :
    (dead.fatal = true ∧ ∀ k, dead.inputs.head? ≠ some (.hwReset k)) ∧
    ({ dead with inputs := [.hwReset 0] }.fatal = true ∧
      { dead with inputs := [.hwReset 0] }.inputs.head? = some (.hwReset 0)) :=
  ⟨⟨rfl, fun _ h => nomatch h⟩, rfl, rfl⟩

theorem witness_HardwareResetLeavesTheResetValues :
    { waiting with inputs := [.hwReset 255, .clock] }.inputs = .hwReset 255 :: [.clock] ∧
    { dead with inputs := [.hwReset 256] }.inputs = .hwReset 256 :: [] := ⟨rfl, rfl⟩

/-- A busy core, in a delay and in its response cycle, and an idle one, with each input that can wait. -/
theorem witness_StepThatAcceptsNoWord :
    waiting.seq ≠ .idle ∧ waiting.fatal = false ∧
    { waiting with inputs := [.command 0x100] }.inputs = .command 0x100 :: [] ∧
    { waiting with inputs := [.start 0xF00] }.inputs = .start 0xF00 :: [] ∧
    { waiting with inputs := [.clock, .clock] }.inputs = .clock :: [.clock] ∧ waiting.inputs = [] ∧
    answering.seq ≠ .idle ∧ answering.fatal = false ∧
    absent.seq = .idle ∧ absent.fatal = false ∧ absent.inputs = [] ∧
    { absent with inputs := [.clock] }.inputs = .clock :: [] := by decide

/-- The invariant holds in a core with a device, in one without, in one that is busy, in one in its response cycle, and in
one that is Fatal. -/
theorem witness_MachineInv_cached : MachineInv (cached 0x7F false) where
  params := Params.reference_wf
  index := by decide
  cause := by decide
  decoded := by decide
  timer := by decide
  idleTimer := by decide
  defaults := fun h => absurd h (by decide)
  zeroAddress := fun h => absurd h (by decide)
  response := fun h => absurd h (by decide)
  guarded := trivial

theorem witness_MachineInv_absent : MachineInv absent where
  params := Params.reference_wf
  index := by decide
  cause := by decide
  decoded := by decide
  timer := by decide
  idleTimer := by decide
  defaults := fun _ => ⟨rfl, rfl, rfl, rfl, rfl, rfl⟩
  zeroAddress := fun _ => rfl
  response := fun h => absurd h (by decide)
  guarded := trivial

theorem witness_MachineInv_waiting : MachineInv waiting where
  params := Params.reference_wf
  index := by decide
  cause := by decide
  decoded := by decide
  timer := by decide
  idleTimer := fun h => absurd h (by decide)
  defaults := fun h => absurd h (by decide)
  zeroAddress := fun h => absurd h (by decide)
  response := fun h => absurd h (by decide)
  guarded := ⟨rfl, by decide⟩

theorem witness_MachineInv_answering : MachineInv answering where
  params := Params.reference_wf
  index := by decide
  cause := by decide
  decoded := by decide
  timer := by decide
  idleTimer := by decide
  defaults := fun h => absurd h (by decide)
  zeroAddress := fun h => absurd h (by decide)
  response := fun _ => by decide
  guarded := trivial

theorem witness_MachineInv_dead : MachineInv dead where
  params := Params.reference_wf
  index := by decide
  cause := by decide
  decoded := by decide
  timer := by decide
  idleTimer := by decide
  defaults := fun h => absurd h (by decide)
  zeroAddress := fun h => absurd h (by decide)
  response := fun h => absurd h (by decide)
  guarded := trivial

theorem witness_StepKeepsTheMachineInvariant :
    (∃ t, MachineInv (cached 0x7F false) ∧ step (cached 0x7F false) = .next t) ∧
    (∃ t, MachineInv waiting ∧ step waiting = .next t) :=
  ⟨⟨_, witness_MachineInv_cached, rfl⟩, _, witness_MachineInv_waiting, rfl⟩

theorem witness_CommandKeepsDefaultsOfANotGoodCore :
    absent.params.WF ∧ (good absent = false → ImageDefault absent) ∧ absent.seq = .idle ∧ absent.tmr = 0 ∧
    good absent = false :=
  ⟨Params.reference_wf, witness_MachineInv_absent.defaults, rfl, rfl, by decide⟩

theorem witness_StepKeepsParametersAndIndex :
    (∃ t, step { absent with inputs := [.hwReset 255] } = .next t ∧ t.idx = 255) ∧
    (∃ t, step { absent with inputs := [.hwReset 256] } = .next t ∧ t.idx = 0) ∧ ∃ t, step waiting = .next t :=
  ⟨⟨_, rfl, rfl⟩, ⟨_, rfl, rfl⟩, _, rfl⟩

theorem witness_OnlySessionCommandsChangeTheAddress :
    ¬IsSession .gettc ∧ ∃ t, exec .gettc (device a1 0x7F false [0x90, 0x01]) = .next t :=
  ⟨by simp [IsSession], _, rfl⟩

/-- Each clause with a command that does change its register, the reads at the least number of bytes that reach it. -/
theorem witness_RegistersHaveOnlyTheirWriters :
    (∃ t, exec .reset (fresh 0 [a1]) = .next t ∧ t.addr ≠ (fresh 0 [a1]).addr ∧ t.par ≠ (fresh 0 [a1]).par) ∧
    (∃ t, exec .begin (fresh 0 [a1]) = .next t ∧ t.auto ≠ (fresh 0 [a1]).auto) ∧
    imageOf (.sprd 1) (device a1 0x1F false (scratchpad 0x7F)) = some [0x90, 0x00, 0x7D, 0xC9, 0x1F] ∧
    imageOf (.sprd 2) (device a1 0x1F false (scratchpad 0x7F)) = some [0x90, 0x01, 0x7D, 0xC9, 0x1F] ∧
    imageOf (.sprd 3) (device a1 0x1F false (scratchpad 0x7F)) = some [0x90, 0x01, 0x4B, 0xC9, 0x1F] ∧
    imageOf (.sprd 4) (device a1 0x1F false (scratchpad 0x7F)) = some [0x90, 0x01, 0x4B, 0x46, 0x1F] ∧
    imageOf (.sprd 5) (device a1 0x1F false (scratchpad 0x7F)) = some [0x90, 0x01, 0x4B, 0x46, 0x7F] ∧
    (∃ t, exec .waitcv { absent with tmr := 1 } = .next t ∧ t.tmr ≠ 1 ∧ t.conv ≠ absent.conv) ∧
    (∃ t, exec .getres (device a1 0x1F false (scratchpad 0xFF)) = .next t ∧ t.fatal ≠ false ∧ t.cause ≠ .none) :=
  ⟨⟨_, rfl, by decide, by decide⟩, ⟨_, rfl, by decide⟩, by decide, by decide, by decide, by decide, by decide,
    ⟨_, rfl, by decide, by decide⟩, _, rfl, by decide, by decide⟩

theorem witness_OnlyThreeCommandsRaiseFatal : (cached 0xFF false).fatal = false ∧ (cached 0xFF false).cause = .none := by
  decide

theorem witness_NotGoodAddressNeverRaisesFatal : MachineInv absent ∧ good absent = false :=
  ⟨witness_MachineInv_absent, by decide⟩

theorem witness_StepOnlyAppendsToTheTrace :
    ∃ t, step { absent with inputs := [.command 0x900] } = .next t ∧ t.trace = [.reset, .skip, .write 0x44 true] :=
  ⟨_, rfl, by decide⟩

theorem witness_ClosedGateLetsNoEventThrough : good absent = false ∧ good (device a1bad 0x7F true [0x90, 0x01]) = false := by
  decide

/-- One address for each clause. -/
theorem witness_ValidateTestsTheCrcThenTheModel :
    Params.reference.crc8.apply a1bad.body ≠ a1bad.b7 ∧
    (Params.reference.crc8.apply x1.body = x1.b7 ∧ x1.b0 ≠ Params.reference.modelA ∧ x1.b0 ≠ Params.reference.modelB ∧
      x1.b0 ≠ Params.reference.modelC) ∧
    (Params.reference.crc8.apply a1.body = a1.b7 ∧ a1.b0 = Params.reference.modelA) ∧
    (Params.reference.crc8.apply b1.body = b1.b7 ∧ b1.b0 = Params.reference.modelB) ∧
    (Params.reference.crc8.apply c1.body = c1.b7 ∧ c1.b0 = Params.reference.modelC) := by decide

theorem witness_SyntheticAddressesAreGood : a1.b0 = Params.reference.modelA ∧ b1.b0 = Params.reference.modelB ∧
    c1.b0 = Params.reference.modelC := by decide

/-- The first bit of the first byte and the last bit of the last (V-VAL-7, V-VAL-12). -/
theorem witness_OneFlippedBitIsInvalidCrc :
    Params.reference.WF ∧ validate Params.reference a1 = .good ∧
    { a1 with b0 := 0x29 }.body = flipBit a1.body 0 0 ∧ { a1 with b0 := 0x29 }.b7 = a1.b7 ∧
    { a1 with b6 := 0x83 }.body = flipBit a1.body 6 7 ∧ { a1 with b6 := 0x83 }.b7 = a1.b7 :=
  ⟨Params.reference_wf, by decide, by decide, rfl, by decide, rfl⟩

theorem witness_WriteThenReadKeepsTheWrittenBytes :
    5 ≤ 5 ∧ good { cached 0x7F true with bus := transport [] (scratchpad 0x7F) true } = true ∧
    ∃ t, exec .spwr { cached 0x7F true with bus := transport [] (scratchpad 0x7F) true } = .next t ∧
      t.bus.byte 2 = 0x4B ∧ t.bus.byte 3 = 0x46 ∧ t.bus.byte 4 = 0x7F :=
  ⟨le_rfl, by decide, _, rfl, by decide, by decide, by decide⟩

theorem witness_DelayTableIsExactAndMonotonic :
    ((8 : Int) < 9 ∨ (12 : Int) < 8) ∧ ((13 : Int) < 9 ∨ (12 : Int) < 13) ∧
    ((9 : Int) ≤ 9 ∧ (9 : Int) ≤ 12 ∧ (12 : Int) ≤ 12) := by decide

theorem witness_DelayOfAByteIsThatOfItsPattern :
    Params.reference.WF ∧ (0xFF : Byte) ≠ Params.reference.cfg9 ∧ (0xFF : Byte) ≠ Params.reference.cfg10 ∧
    (0xFF : Byte) ≠ Params.reference.cfg11 :=
  ⟨Params.reference_wf, by decide, by decide, by decide⟩

theorem witness_TimerWaitsAtLeastTheDelay : (750 ≤ 750 ∧ 750 ≤ 750) ∧ (0 ≤ 750 ∧ 0 ≤ 0) := by decide

theorem witness_ConversionStateAfterEachCommand : IsSession .begin ∧ IsSession .reset ∧
    (Instr.gettf = .gettc ∨ Instr.gettf = .gettf) :=
  ⟨.inl rfl, .inr rfl, .inr rfl⟩

theorem witness_DecodeIsTheSourcesTable :
    Params.reference.WF ∧ (0x28 : Byte) = Params.reference.modelA ∧ (0x22 : Byte) = Params.reference.modelC ∧
    (0x7E : Byte) ∉ [Params.reference.cfg9, Params.reference.cfg10, Params.reference.cfg11, Params.reference.cfg12] ∧
    (0x26 : Byte) ∉ [Params.reference.modelA, Params.reference.modelB, Params.reference.modelC] :=
  ⟨Params.reference_wf, by decide, by decide, by decide, by decide⟩

theorem witness_DecodeClearsTheLowBits : Params.reference.WF ∧ (0x22 : Byte) = Params.reference.modelC :=
  ⟨Params.reference_wf, rfl⟩

/-- The ends of the ranges (V-DEC-11, V-DEC-12). -/
theorem witness_DecodedValuesFitTheResponse :
    decodeTemp Params.reference 0x10 0x00 (rawReading 0x7F 0xFF) = .value 262136 ∧
    decodeTemp Params.reference 0x10 0x00 (rawReading 0x80 0x00) = .value (-262144) ∧
    decodeTemp Params.reference 0x28 0x7F (rawReading 0x7F 0xFF) = .value 32767 ∧
    decodeTemp Params.reference 0x22 0x1F (rawReading 0x80 0x00) = .value (-32768) := by decide

theorem witness_SourceDecodeExamplesHold : Params.reference.WF := Params.reference_wf

theorem witness_DecodableCoreAnswersATemperature :
    (cached 0x7F false).params.WF ∧ Decodable (cached 0x7F false) ∧ Decodable (device b1 0xFF true [0x32, 0x00]) :=
  ⟨Params.reference_wf, ⟨by decide, .inr (by decide)⟩, by decide, .inl rfl⟩

/-- Both outcomes of a Good address, and a closed gate. -/
theorem witness_GetresAnswersTheLevelOrGoesFatal :
    (device a1 0x1F false (scratchpad 0x5F)).params.WF ∧ good (device a1 0x1F false (scratchpad 0x5F)) = true ∧
    levelOfCfg Params.reference ((device a1 0x1F false (scratchpad 0x5F)).bus.byte 4) = some 11 ∧
    levelOfCfg Params.reference ((device a1 0x1F false (scratchpad 0xFF)).bus.byte 4) = none ∧ good absent = false :=
  ⟨Params.reference_wf, by decide, by decide, by decide, by decide⟩

theorem witness_SetresWritesTheLevelWithTheAlarmsRead :
    (cached 0x7F true).params.WF ∧ good (cached 0x7F true) = true ∧ good absent = false :=
  ⟨Params.reference_wf, by decide, by decide⟩

theorem witness_LevelsAndPatternsMapBothWays :
    Params.reference.WF ∧ (8 < 9 ∨ 12 < 8) ∧ (13 < 9 ∨ 12 < 13) ∧
    (0x00 : Byte) ∉ [Params.reference.cfg9, Params.reference.cfg10, Params.reference.cfg11, Params.reference.cfg12] :=
  ⟨Params.reference_wf, by decide, by decide, by decide⟩

/-- The device stores what is written: level 9, and 13, which gives 12. -/
theorem witness_GetresAfterSetresAnswersTheLevel :
    (device a1 0x1F false (scratchpad 0x7F ++ scratchpad 0x1F)).params.WF ∧
    good (device a1 0x1F false (scratchpad 0x7F ++ scratchpad 0x1F)) = true ∧
    (∃ t, exec (.setres 9) (device a1 0x1F false (scratchpad 0x7F ++ scratchpad 0x1F)) = .next t ∧
      t.bus.byte 4 = t.cfg) ∧
    ∃ t, exec (.setres 13) (device a1 0x1F false (scratchpad 0x3F ++ scratchpad 0x7F)) = .next t ∧ t.bus.byte 4 = t.cfg :=
  ⟨Params.reference_wf, by decide, ⟨_, rfl, by decide⟩, _, rfl, by decide⟩

/-- V-SES-4, and the first candidate at index 0. -/
theorem witness_SessionEstablishedWhenTheDeviceIsFound :
    IsSession .begin ∧ (fresh 2 [a1, x1, b1, a1bad, c1]).params.WF ∧
    (fresh 2 [a1, x1, b1, a1bad, c1]).bus.session = [a1, x1, b1, a1bad] ++ c1 :: [] ∧
    validate Params.reference c1 = .good ∧ countGood Params.reference [a1, x1, b1, a1bad] = 2 ∧
    ((fresh 0 [a1, a1]).bus.session = [] ++ a1 :: [a1] ∧ countGood Params.reference [] = 0) :=
  ⟨.inl rfl, Params.reference_wf, rfl, by decide, by decide, rfl, by decide⟩

/-- V-SES-5 and V-SES-6. -/
theorem witness_SessionWithoutADeviceLeavesTheDefaults :
    IsSession .reset ∧ (fresh 1 [a1]).params.WF ∧ countGood Params.reference (fresh 1 [a1]).bus.session < 1 + 1 ∧
    countGood Params.reference (fresh 0 []).bus.session < 0 + 1 :=
  ⟨.inr rfl, Params.reference_wf, by decide, by decide⟩

theorem witness_CommandsBeforeADeviceIsFound : MachineInv absent ∧ good absent = false :=
  ⟨witness_MachineInv_absent, by decide⟩

theorem witness_SequencerRunsEachCommandToItsMeaning : (cached 0x7F true).seq = .idle ∧ (cached 0x7F true).tmr = 0 := by
  decide

theorem witness_SequencerPerformsTheRequestOnItsPort :
    pendingRequest { cached 0x7F false with seq := .busy .reqbc [.busReset, .finish] } = some .busReset ∧
    pendingRequest { cached 0x7F true with seq := .busy .spwr [.settle, .busReset, .finish] } = none ∧
    pendingRequest waiting = none := by decide

/-- No request in an idle core, and each request that carries a field. -/
theorem witness_TransportPortCarriesTheRequest :
    pendingRequest absent = none ∧
    pendingRequest { cached 0x7F true with seq := .busy .spwr [.select, .finish] } = some (.select a1) ∧
    pendingRequest { cached 0x7F true with seq := .busy .spwr [.write .copyScratch, .finish] } =
      some (.write 0x48 true) := by decide

theorem witness_OutputPortsFollowTheState :
    (outPorts absent).cmdReady = true ∧ (outPorts { absent with seq := .busy .reqbc [.skip, .finish] }).btReq = true ∧
    (outPorts answering).rspValid = true := by decide

/-- With no input waiting, with a word waiting, and with the clock going by; the last step of a sequence, with either end,
and an illegal word. -/
theorem witness_ResponseStandsForOneCycle :
    (answering.seq = .responding ∧ answering.tmr = 0 ∧ answering.fatal = false ∧
      answering.rsp = some ⟨false, 0, 12, 0⟩) ∧
    (∀ k, answering.inputs.head? ≠ some (.hwReset k)) ∧
    (∀ k, { answering with inputs := [.command 0x100] }.inputs.head? ≠ some (.hwReset k)) ∧
    (∀ k, { answering with inputs := [.clock] }.inputs.head? ≠ some (.hwReset k)) ∧
    (advance { cached 0x7F false with seq := .busy .getres [.finish] }).seq = .responding ∧
    (advance { cached 0xFF false with seq := .busy .getres [.finish] }).fatal = true ∧
    (Ready { absent with inputs := [.start 0xF00] } ∧ absent.tmr = 0 ∧ ∃ e, decode 0xF00 = .error e) :=
  ⟨by decide, fun _ h => (nomatch h), fun _ h => (nomatch h), fun _ h => (nomatch h), by decide, by decide, ⟨rfl, rfl⟩,
    rfl, _, rfl⟩

end Sys2Proof.Tests
end

section
/-!
SUPPORT. The meaning of a command as the effects of its steps, one after the other. Two things follow from it: what no
command writes (the parameters, `IDX`, `SEQ` and the inputs), and that the sequencer, one step at a time, ends where the
meaning ends.
-/

namespace Sys2Proof.Machine

/-! ### The effect of a step -/

/-- What one step of the sequence of the command `cmd` does when it is run to its end: a gated sequence with all its own
steps, a delay with its whole wait, the discovery loop with all the turns still to come. -/
def stepEffect (cmd : Instr) (m : Micro) (s : State) : State :=
  match m with
  | .beginMode => setAuto true s
  | .loadDefaults => loadDefaults s
  | .enumReset => enumReset s
  | .enumNext count => discoverLoop (s.bus.candidates.length + 1) count s
  | .pwrDetect => pwrDetect s
  | .spread n => spread n s
  | .spwrite => spwrite s
  | .convStart => convStart s
  | .tempRead => tempRead s
  | .setresBody level => if good s then setresFrame level s else s
  | .busReset => busReset s
  | .select => busSelect s
  | .skip => busSkip s
  | .write item => busWrite item s
  | .readByte k => setSp k (busReadByte s).1 (busReadByte s).2
  | .readPower => setPar (parOfBit (busReadBit s).1) (busReadBit s).2
  | .setConv c => setConv c s
  | .setCfg level => setLevel level s
  | .convDelay => convDelay s
  | .settle => settle s
  | .finish => finishCommand cmd s

/-- The effects of a list of steps, the first one first. -/
def effects (cmd : Instr) (steps : List Micro) (s : State) : State := steps.foldl (fun t m => stepEffect cmd m t) s

@[simp] theorem effects_nil (cmd : Instr) (s : State) : effects cmd [] s = s := rfl

@[simp] theorem effects_cons (cmd : Instr) (m : Micro) (steps : List Micro) (s : State) :
    effects cmd (m :: steps) s = effects cmd steps (stepEffect cmd m s) := rfl

@[simp] theorem effects_append (cmd : Instr) (xs ys : List Micro) (s : State) :
    effects cmd (xs ++ ys) s = effects cmd ys (effects cmd xs s) := List.foldl_append

theorem effects_readBytes (cmd : Instr) (m k : Nat) (s : State) :
    effects cmd ((List.range' k m).map .readByte) s = readBytes m k s := by
  induction m generalizing k s with
  | zero => rfl
  | succ m ih => exact ih (k + 1) _

theorem effects_spreadSteps (cmd : Instr) (n : Nat) (s : State) : effects cmd (spreadSteps n) s = spreadFrame n s := by
  simp only [spreadSteps, effects_append, List.range_eq_range', effects_readBytes]
  rfl

theorem effects_tempReadSteps (cmd : Instr) (s : State) : effects cmd (tempReadSteps s.auto) s = tempReadFrame s := by
  unfold tempReadSteps tempReadFrame
  cases h : s.auto <;> rfl

/-! ### What no step of a sequence writes -/

/-- The fields that no command writes: the parameters, `IDX`, `SEQ` and the inputs. -/
def SameFixed (s t : State) : Prop :=
  t.params = s.params ∧ t.idx = s.idx ∧ t.seq = s.seq ∧ t.inputs = s.inputs

theorem SameFixed.refl (s : State) : SameFixed s s := ⟨rfl, rfl, rfl, rfl⟩

theorem SameFixed.trans {s t u : State} (h : SameFixed s t) (h' : SameFixed t u) : SameFixed s u := by
  obtain ⟨hparams, hidx, hseq, hinputs⟩ := h
  obtain ⟨hparams', hidx', hseq', hinputs'⟩ := h'
  exact ⟨hparams'.trans hparams, hidx'.trans hidx, hseq'.trans hseq, hinputs'.trans hinputs⟩

/-- A gated sequence keeps the fixed fields if it does so when its gate is open. -/
theorem SameFixed.of_gate {s t : State} (hclosed : good s = false → t = s) (hopen : good s = true → SameFixed s t) :
    SameFixed s t := by
  cases h : good s
  · exact hclosed h ▸ .refl s
  · exact hopen h

theorem spread_frame (n : Nat) (s : State) : SameFixed s (spread n s) :=
  .of_gate (fun h => spread_closed h n) fun h => spread_good h n ▸ ⟨rfl, rfl, rfl, rfl⟩

theorem spwrite_frame (s : State) : SameFixed s (spwrite s) :=
  .of_gate spwrite_closed fun h => spwrite_good h ▸ ⟨rfl, rfl, rfl, rfl⟩

theorem pwrDetect_frame (s : State) : SameFixed s (pwrDetect s) :=
  .of_gate pwrDetect_closed fun h => pwrDetect_good h ▸ ⟨rfl, rfl, rfl, rfl⟩

theorem convStart_frame (s : State) : SameFixed s (convStart s) :=
  .of_gate convStart_closed fun h => convStart_good h ▸ ⟨rfl, rfl, rfl, rfl⟩

theorem tempRead_frame (s : State) : SameFixed s (tempRead s) :=
  .of_gate tempRead_closed fun h => tempRead_good h ▸ ⟨rfl, rfl, rfl, rfl⟩

theorem setLevel_frame (level : Nat) (s : State) : SameFixed s (setLevel level s) := ⟨rfl, rfl, rfl, rfl⟩

theorem setresFrame_frame (level : Nat) (s : State) : SameFixed s (setresFrame level s) :=
  ((spread_frame _ s).trans (setLevel_frame level _)).trans (spwrite_frame _)

theorem settle_frame (s : State) : SameFixed s (settle s) := by
  unfold settle
  split
  · exact ⟨rfl, rfl, rfl, rfl⟩
  · exact .refl s

theorem enumNext_frame (s : State) : SameFixed s (enumNext s).2 := ⟨rfl, rfl, rfl, rfl⟩

theorem discoverLoop_frame (turns count : Nat) (s : State) : SameFixed s (discoverLoop turns count s) := by
  induction turns generalizing count s with
  | zero => exact .refl s
  | succ turns ih =>
    have hf := enumNext_frame s
    unfold discoverLoop
    rcases henum : enumNext s with ⟨_ | a, t⟩ <;> rw [henum] at hf <;> dsimp only at hf ⊢
    · exact hf
    · split_ifs
      · exact hf
      · exact hf.trans (ih _ _)
      · exact hf.trans (ih _ _)

theorem finishCommand_frame (cmd : Instr) (s : State) : SameFixed s (finishCommand cmd s) := by
  obtain ⟨_, h⟩ | ⟨_, h⟩ := finishCommand_ends cmd s <;> rw [h] <;> exact ⟨rfl, rfl, rfl, rfl⟩

theorem effect_frame (cmd : Instr) (m : Micro) (s : State) : SameFixed s (stepEffect cmd m s) := by
  cases m with
  | enumNext count => exact discoverLoop_frame _ _ s
  | pwrDetect => exact pwrDetect_frame s
  | spread n => exact spread_frame n s
  | spwrite => exact spwrite_frame s
  | convStart => exact convStart_frame s
  | tempRead => exact tempRead_frame s
  | setresBody level =>
    dsimp only [stepEffect]
    split
    · exact setresFrame_frame level s
    · exact .refl s
  | readByte k => simp [stepEffect, SameFixed, busReadByte_eq]
  | settle => exact settle_frame s
  | finish => exact finishCommand_frame cmd s
  | _ => exact ⟨rfl, rfl, rfl, rfl⟩

theorem effects_frame (cmd : Instr) (steps : List Micro) (s : State) : SameFixed s (effects cmd steps s) := by
  induction steps generalizing s with
  | nil => exact .refl s
  | cons m steps ih => exact (effect_frame cmd m s).trans (ih _)

/-! ### A command's meaning is the effects of its program -/

theorem status_spread (n : Nat) (s : State) : status (spread n s) = status s := by
  cases h : good s
  · rw [spread_closed h]
  · rw [spread_good h]; rfl

theorem status_spwrite (s : State) : status (spwrite s) = status s := by
  cases h : good s
  · rw [spwrite_closed h]
  · rw [spwrite_good h]; rfl

theorem exec_eq_effects (i : Instr) (s : State) : exec i s = .next (effects i (program s.params i) s) := by
  cases i with
  | sprd n =>
    change _ = Host.Outcome.next (respond false (status (spread n s)) 0 0 (spread n s))
    rw [status_spread]
    rfl
  | spwr =>
    change _ = Host.Outcome.next (respond false (status (spwrite s)) 0 0 (spwrite s))
    rw [status_spwrite]
    rfl
  | _ => rfl

/-- No command writes the parameters, `IDX`, `SEQ` or the inputs. -/
theorem exec_frame {i : Instr} {s t : State} (h : exec i s = .next t) : SameFixed s t := by
  rw [exec_eq_effects] at h
  exact Host.Outcome.next.inj h ▸ effects_frame i _ s

/-- Settles O15, by cases on what the step did: only hardware reset is outside the frames of the commands and of the
sequencer. -/
theorem stepKeepsParametersAndIndex : Obligations.StepKeepsParametersAndIndex := by
  intro s t h
  obtain ⟨k, hk, rfl⟩ | ⟨-, hstep⟩ := step_cases h
  · exact ⟨rfl, .inr ⟨k, hk, rfl⟩⟩
  obtain ⟨-, i, hi⟩ | ⟨-, rfl⟩ | ⟨-, rfl⟩ | ⟨-, i, rfl⟩ | ⟨-, rfl | rfl⟩ | ⟨-, rfl⟩ := hstep
  · obtain ⟨hp, hidx, -, -⟩ := exec_frame hi
    exact ⟨hp, .inl hidx⟩
  · exact ⟨rfl, .inl rfl⟩
  · exact ⟨rfl, .inl rfl⟩
  · exact ⟨rfl, .inl rfl⟩
  · obtain ⟨hp, hidx, -⟩ := advance_frame s
    exact ⟨hp, .inl hidx⟩
  · obtain ⟨hp, hidx, -⟩ := advance_frame (dropInput s)
    exact ⟨hp, .inl hidx⟩
  · exact ⟨rfl, .inl rfl⟩

/-! ### Runs of a busy core -/

/-- One step of the sequencer in a core that is not idle. -/
def BusyStep (s t : State) : Prop := s.seq ≠ .idle ∧ advance s = t

/-- Some number of steps of the sequencer, the core busy in each state but perhaps the last. -/
abbrev BusyRun : State → State → Prop := Relation.ReflTransGen BusyStep

theorem BusyRun.exists_advanceBy {s t : State} (h : BusyRun s t) :
    ∃ k, advanceBy k s = t ∧ ∀ j < k, (advanceBy j s).seq ≠ .idle := by
  induction h using Relation.ReflTransGen.head_induction_on with
  | refl => exact ⟨0, rfl, fun j hj => absurd hj (Nat.not_lt_zero j)⟩
  | head hstep _ ih =>
    obtain ⟨hbusy, rfl⟩ := hstep
    obtain ⟨k, hk, hj⟩ := ih
    refine ⟨k + 1, hk, fun j hlt => ?_⟩
    cases j with
    | zero => exact hbusy
    | succ j => exact hj j (Nat.lt_of_succ_lt_succ hlt)

/-- A core whose registers are those of `s`, in the sequence of `cmd` with `steps` still to come. -/
def inProgress (cmd : Instr) (steps : List Micro) (s : State) : State := { s with seq := .busy cmd steps, rsp := none }

theorem beginSequence_eq (i : Instr) (s : State) : beginSequence i s = inProgress i (program s.params i) s := rfl

/-- The wait of a delay: one millisecond after the other, until `TMR` is zero (spec/10_state.md rule R29). -/
theorem busyRun_timerExpires (cmd : Instr) (steps : List Micro) (s : State) :
    BusyRun (inProgress cmd steps s) (inProgress cmd steps (timerExpires s)) := by
  induction hn : s.tmr.toNat generalizing s with
  | zero =>
    have ht : s.tmr = 0 := BitVec.eq_of_toNat_eq hn
    rw [show timerExpires s = s by rw [timerExpires, ← ht]]
  | succ n ih =>
    have ht : s.tmr ≠ 0 := fun h => by simp [h] at hn
    have htick : BusyStep (inProgress cmd steps s) (inProgress cmd steps (tick s)) := ⟨nofun, if_neg ht⟩
    have hless : (tick s).tmr.toNat = n := by rw [tick_tmr, if_neg ht]; bv_omega
    exact .head htick (ih (tick s) hless)

/-! ### One step of the sequencer -/

theorem enumNext_inProgress (c : Instr) (steps : List Micro) (s : State) :
    enumNext (inProgress c steps s) = ((enumNext s).1, inProgress c steps (enumNext s).2) := rfl

/-- A step of a sequence but its last reads neither `SEQ` nor the response. -/
theorem microStep_inProgress {m : Micro} (hm : m ≠ .finish) (cmd c : Instr) (steps rest : List Micro) (s : State) :
    microStep cmd m rest (inProgress c steps s) =
      ((microStep cmd m rest s).1, inProgress c steps (microStep cmd m rest s).2) := by
  cases m with
  | finish => exact absurd rfl hm
  | enumNext count =>
    simp only [microStep, discoverTurn, enumNext_inProgress]
    rcases enumNext s with ⟨_ | a, t⟩
    · rfl
    · dsimp only [inProgress]
      split_ifs <;> rfl
  | readByte k => simp only [microStep, setSp]; split <;> rfl
  | settle => exact congrArg (rest, ·) (apply_ite (inProgress c steps) (s.par = true) (loadTimer 10 s) s).symm
  | _ => rfl

/-- A step of a sequence but its last leaves the steps after it still to come. -/
theorem microStep_continues {m : Micro} (hm : m ≠ .finish) (cmd : Instr) {rest : List Micro} (hr : rest ≠ [])
    (s : State) :
    (microStep cmd m rest s).1 ≠ [] := by
  have hgate (steps : List Micro) : gated s steps rest ≠ [] := by unfold gated; split <;> simp [hr]
  cases m with
  | finish => exact absurd rfl hm
  | enumNext count =>
    simp only [microStep, discoverTurn]
    rcases enumNext s with ⟨_ | a, t⟩
    · exact hr
    · dsimp only
      split_ifs <;> simp [hr]
  | pwrDetect => exact hgate _
  | spread n => exact hgate _
  | spwrite => exact hgate _
  | convStart => exact hgate _
  | tempRead => exact hgate _
  | setresBody level => exact hgate _
  | _ => exact hr

theorem busyStep_inProgress {m : Micro} (hm : m ≠ .finish) (cmd : Instr) {rest : List Micro} (hr : rest ≠ [])
    {s : State} (ht : s.tmr = 0) :
    BusyStep (inProgress cmd (m :: rest) s)
      (inProgress cmd (microStep cmd m rest s).1 (microStep cmd m rest s).2) := by
  refine ⟨nofun, ?_⟩
  have hadv : advance (inProgress cmd (m :: rest) s) =
      { (microStep cmd m rest (inProgress cmd (m :: rest) s)).2 with
        seq := seqAfter cmd (microStep cmd m rest (inProgress cmd (m :: rest) s)).1
          (microStep cmd m rest (inProgress cmd (m :: rest) s)).2.rsp } := if_pos ht
  rw [hadv, microStep_inProgress hm]
  obtain ⟨m', rest', hcons⟩ := List.exists_cons_of_ne_nil (microStep_continues hm cmd hr s)
  rw [hcons]
  rfl

/-! ### Each step of a sequence performs its effect -/

/-- In `s` the steps are gone through, whatever follows them, and leave their effects and `TMR` at zero. -/
def PerformsAt (cmd : Instr) (steps : List Micro) (s : State) : Prop :=
  (effects cmd steps s).tmr = 0 ∧
    ∀ rest ≠ [], BusyRun (inProgress cmd (steps ++ rest) s) (inProgress cmd rest (effects cmd steps s))

/-- The steps perform their effects in every state with `TMR` = 0. -/
def Performs (cmd : Instr) (steps : List Micro) : Prop := ∀ s : State, s.tmr = 0 → PerformsAt cmd steps s

theorem performsAt_nil (cmd : Instr) {s : State} (ht : s.tmr = 0) : PerformsAt cmd [] s := ⟨ht, fun _ _ => .refl⟩

theorem performs_of_forall_mem {cmd : Instr} {steps : List Micro} (h : ∀ m ∈ steps, Performs cmd [m]) :
    Performs cmd steps := by
  induction steps with
  | nil => exact fun s ht => performsAt_nil cmd ht
  | cons m steps ih =>
    intro s ht
    obtain ⟨ht₁, hrun₁⟩ := h m (by simp) s ht
    obtain ⟨ht₂, hrun₂⟩ := ih (fun m' hm' => h m' (by simp [hm'])) _ ht₁
    exact ⟨ht₂, fun rest hr => (hrun₁ (steps ++ rest) (by simp [hr])).trans (hrun₂ rest hr)⟩

/-- A step that puts other steps in its place performs its effect if they do. -/
theorem performsAt_of_microStep {cmd : Instr} {m : Micro} {steps : List Micro} {s t : State} (hm : m ≠ .finish)
    (ht : s.tmr = 0) (hstep : ∀ rest, microStep cmd m rest s = (steps ++ rest, t))
    (heffect : stepEffect cmd m s = effects cmd steps t) (hsteps : PerformsAt cmd steps t) : PerformsAt cmd [m] s := by
  obtain ⟨ht', hrun⟩ := hsteps
  rw [PerformsAt, effects_cons, effects_nil, heffect]
  refine ⟨ht', fun rest hr => ?_⟩
  have hfirst := busyStep_inProgress hm cmd hr ht
  rw [hstep] at hfirst
  exact .head hfirst (hrun rest hr)

/-- The steps that take one step of the sequencer and, after it, at most a wait. -/
def Micro.isSimple : Micro → Bool
  | .enumNext _ | .pwrDetect | .spread _ | .spwrite | .convStart | .tempRead | .setresBody _ | .finish => false
  | _ => true

theorem microStep_of_isSimple {m : Micro} (hm : m.isSimple = true) (cmd : Instr) (rest : List Micro) {s : State}
    (ht : s.tmr = 0) :
    (microStep cmd m rest s).1 = rest ∧ timerExpires (microStep cmd m rest s).2 = stepEffect cmd m s := by
  have hzero {t : State} (h : t.tmr = 0) : timerExpires t = t := by rw [timerExpires, ← h]
  cases m with
  | settle =>
    cases hp : s.par
    · simp [microStep, stepEffect, settle, hp, hzero ht]
    · simp [microStep, stepEffect, settle, delay, hp]
  | convDelay => exact ⟨rfl, rfl⟩
  | readByte k => exact ⟨rfl, hzero (by simpa [microStep, busReadByte_eq] using ht)⟩
  | enumNext | pwrDetect | spread | spwrite | convStart | tempRead | setresBody | finish => cases hm
  | _ => exact ⟨rfl, hzero ht⟩

theorem performs_of_isSimple {m : Micro} (hm : m.isSimple = true) (cmd : Instr) : Performs cmd [m] := by
  intro s ht
  obtain ⟨-, heffect⟩ := microStep_of_isSimple hm cmd [] ht
  refine ⟨by rw [effects_cons, ← heffect]; rfl, fun rest hr => ?_⟩
  obtain ⟨hrest, heffect⟩ := microStep_of_isSimple hm cmd rest ht
  have hstep := busyStep_inProgress (m := m) (by rintro rfl; cases hm) cmd hr ht
  rw [hrest] at hstep
  rw [effects_cons, ← heffect]
  exact .head hstep (busyRun_timerExpires cmd rest _)

theorem performs_of_all_isSimple {steps : List Micro} (h : steps.all Micro.isSimple = true) (cmd : Instr) :
    Performs cmd steps :=
  performs_of_forall_mem fun _ hm => performs_of_isSimple (List.all_eq_true.mp h _ hm) cmd

/-- A gated sequence performs its effect if its own steps do (spec/40_address_validator.md rule R103). -/
theorem performs_of_gate {cmd : Instr} {m : Micro} {steps : State → List Micro} (hm : m ≠ .finish)
    (hgate : ∀ rest s, microStep cmd m rest s = (gated s (steps s) rest, s))
    (heffect : ∀ s, stepEffect cmd m s = if good s then effects cmd (steps s) s else s)
    (hsteps : ∀ s, Performs cmd (steps s)) : Performs cmd [m] := by
  intro s ht
  cases hg : good s
  · exact performsAt_of_microStep (steps := []) hm ht (fun rest => by simp [hgate, gated, hg])
      (by simp [heffect, hg]) (performsAt_nil cmd ht)
  · exact performsAt_of_microStep hm ht (fun rest => by simp [hgate, gated, hg])
      (by simp [heffect, hg]) (hsteps s s ht)

theorem performs_pwrDetect (cmd : Instr) : Performs cmd [.pwrDetect] :=
  performs_of_gate (steps := fun _ => pwrDetectSteps) nofun (fun _ _ => rfl) (fun _ => rfl)
    fun _ => performs_of_all_isSimple rfl cmd

theorem performs_spread (cmd : Instr) (n : Nat) : Performs cmd [.spread n] :=
  performs_of_gate (steps := fun _ => spreadSteps n) nofun (fun _ _ => rfl)
    (fun s => by rw [effects_spreadSteps]; rfl)
    fun _ => performs_of_all_isSimple (by simp [spreadSteps, Micro.isSimple]) cmd

theorem performs_spwrite (cmd : Instr) : Performs cmd [.spwrite] :=
  performs_of_gate (steps := fun _ => spwriteSteps) nofun (fun _ _ => rfl) (fun _ => rfl)
    fun _ => performs_of_all_isSimple rfl cmd

theorem performs_convStart (cmd : Instr) : Performs cmd [.convStart] :=
  performs_of_gate (steps := fun _ => convStartSteps) nofun (fun _ _ => rfl) (fun _ => rfl)
    fun _ => performs_of_all_isSimple rfl cmd

theorem performs_tempRead (cmd : Instr) : Performs cmd [.tempRead] := by
  refine performs_of_gate (steps := fun s => tempReadSteps s.auto) nofun (fun _ _ => rfl)
    (fun s => by rw [effects_tempReadSteps]; rfl) fun s => performs_of_forall_mem fun m hm => ?_
  have hcases : m = .convStart ∨ m = .spread 2 ∨ m = .setConv .idle := by
    unfold tempReadSteps at hm
    split at hm <;> simp_all
  obtain rfl | rfl | rfl := hcases
  · exact performs_convStart cmd
  · exact performs_spread cmd 2
  · exact performs_of_isSimple rfl cmd

theorem performs_setresBody (cmd : Instr) (level : Nat) : Performs cmd [.setresBody level] := by
  refine performs_of_gate (steps := fun s => setresSteps s.params level) nofun (fun _ _ => rfl) (fun _ => rfl)
    fun s => performs_of_forall_mem fun m hm => ?_
  obtain rfl | rfl | rfl : m = .spread s.params.nFull ∨ m = .setCfg level ∨ m = .spwrite := by
    simpa [setresSteps] using hm
  · exact performs_spread cmd _
  · exact performs_of_isSimple rfl cmd
  · exact performs_spwrite cmd

/-- The discovery loop, by induction on the candidates still to come: a turn ends the loop, or leaves it to the
candidates that follow, with a Good one that is not the wanted one counted (spec/46_session.md rule R193). -/
theorem performs_enumNext (cmd : Instr) (count : Nat) : Performs cmd [.enumNext count] := by
  intro s ht
  induction hc : s.bus.candidates generalizing count s with
  | nil =>
    obtain ⟨t, henum, htt⟩ : ∃ t, enumNext s = (none, t) ∧ t.tmr = 0 := ⟨_, enumNext_nil hc, ht⟩
    exact performsAt_of_microStep (steps := []) (t := t) nofun ht
      (fun rest => by simp [microStep, discoverTurn, henum])
      (by simp [stepEffect, discoverLoop, henum]) (performsAt_nil cmd htt)
  | cons a l ih =>
    obtain ⟨t, henum, hct, htt⟩ : ∃ t, enumNext s = (some a, t) ∧ t.bus.candidates = l ∧ t.tmr = 0 :=
      ⟨_, enumNext_cons hc, rfl, ht⟩
    by_cases hg : validate t.params a = .good
    · by_cases hcount : count = t.idx
      · exact performsAt_of_microStep (steps := []) (t := setAddr a t) nofun ht
          (fun rest => by simp [microStep, discoverTurn, henum, hg, hcount])
          (by simp [stepEffect, discoverLoop, henum, hg, hcount]) (performsAt_nil cmd htt)
      · exact performsAt_of_microStep (steps := [.enumNext (count + 1)]) (t := t) nofun ht
          (fun rest => by simp [microStep, discoverTurn, henum, hg, hcount])
          (by simp [stepEffect, discoverLoop, henum, hg, hcount, hc, hct]) (ih (count + 1) t htt hct)
    · exact performsAt_of_microStep (steps := [.enumNext count]) (t := t) nofun ht
        (fun rest => by simp [microStep, discoverTurn, henum, hg])
        (by simp [stepEffect, discoverLoop, henum, hg, hc, hct]) (ih count t htt hct)

theorem performs_of_ne_finish (cmd : Instr) {m : Micro} (hm : m ≠ .finish) : Performs cmd [m] := by
  cases m with
  | enumNext count => exact performs_enumNext cmd count
  | pwrDetect => exact performs_pwrDetect cmd
  | spread n => exact performs_spread cmd n
  | spwrite => exact performs_spwrite cmd
  | convStart => exact performs_convStart cmd
  | tempRead => exact performs_tempRead cmd
  | setresBody level => exact performs_setresBody cmd level
  | finish => exact absurd rfl hm
  | _ => exact performs_of_isSimple rfl cmd

/-! ### The end of a sequence -/

/-- The last step of a sequence reads neither `SEQ` nor the response. -/
theorem finishCommand_inProgress (cmd c : Instr) (steps : List Micro) (s : State) :
    finishCommand cmd (inProgress c steps s) = { finishCommand cmd s with seq := .busy c steps } := by
  have htemp (unit : Int → Int) :
      answerTemp unit (inProgress c steps s) = { answerTemp unit s with seq := .busy c steps } := by
    have hd : decodeNow (inProgress c steps s) = decodeNow s := rfl
    have hg : good (inProgress c steps s) = good s := rfl
    unfold answerTemp
    rw [hg, hd]
    cases good s
    · rfl
    · cases decodeNow s <;> rfl
  cases cmd with
  | gettc => exact htemp _
  | gettf => exact htemp _
  | getres =>
    unfold finishCommand answerLevel
    dsimp only [inProgress]
    cases levelOfCfg s.params s.cfg <;> rfl
  | setres level =>
    have hg : good (inProgress c steps s) = good s := rfl
    unfold finishCommand answerWritten
    dsimp only
    rw [hg]
    cases good s <;> rfl
  | _ => rfl

/-- The last step: the command's end, and the response cycle if it delivers a record (spec/30_encoding.md rule R70). -/
theorem busyRun_finish (cmd : Instr) {s : State} (ht : s.tmr = 0) (hs : s.seq = .idle) :
    BusyRun (inProgress cmd [.finish] s) (finishCommand cmd s) := by
  have hadv : advance (inProgress cmd [.finish] s) =
      { finishCommand cmd s with seq := seqAfter cmd [] (finishCommand cmd s).rsp } := by
    have hstep : advance (inProgress cmd [.finish] s) =
        { finishCommand cmd (inProgress cmd [.finish] s) with
          seq := seqAfter cmd [] (finishCommand cmd (inProgress cmd [.finish] s)).rsp } := if_pos ht
    rw [hstep, finishCommand_inProgress]
  have hfirst : BusyStep (inProgress cmd [.finish] s) _ := ⟨nofun, hadv⟩
  obtain ⟨r, h⟩ | ⟨c, h⟩ := finishCommand_ends cmd s <;> rw [h] at hfirst ⊢
  · refine .head hfirst (.single ⟨nofun, ?_⟩)
    rw [advance_responding (by rfl) (by exact ht), ← hs]
  · convert Relation.ReflTransGen.single hfirst using 1
    simp [raiseFatal, seqAfter, hs]

/-! ### The sequencer ends where the meaning ends -/

theorem program_eq_append_finish (p : Params) (i : Instr) :
    ∃ steps, program p i = steps ++ [.finish] ∧ Micro.finish ∉ steps :=
  ⟨(program p i).dropLast, by cases i <;> rfl, by cases i <;> simp [program]⟩

/-- The sequencer goes from the beginning of a command's sequence to the effects of its whole program. -/
theorem busyRun_program (i : Instr) {s : State} (hs : s.seq = .idle) (ht : s.tmr = 0) :
    BusyRun (beginSequence i s) (effects i (program s.params i) s) := by
  obtain ⟨steps, hprog, hfin⟩ := program_eq_append_finish s.params i
  rw [beginSequence_eq, hprog, effects_append]
  obtain ⟨htmr, hrun⟩ := performs_of_forall_mem
    (fun m hm => performs_of_ne_finish i (ne_of_mem_of_not_mem hm hfin)) s ht
  obtain ⟨-, -, hseq, -⟩ := effects_frame i steps s
  exact (hrun [.finish] (by simp)).trans (busyRun_finish i htmr (hseq.trans hs))

/-- Settles O56: a command's meaning is the effects of its program, and the sequencer performs each of them. -/
theorem sequencerRunsEachCommandToItsMeaning : Obligations.SequencerRunsEachCommandToItsMeaning := by
  intro i s hs ht
  obtain ⟨k, hk, hbusy⟩ := (busyRun_program i hs ht).exists_advanceBy
  exact ⟨k, by rw [hk, exec_eq_effects], hbusy⟩

end Sys2Proof.Machine
end

section
/-!
SUPPORT. The invariant of the machine is kept by every step. A step that runs a whole command needs no argument of its
own: the sequencer ends where the command's meaning ends, so what every step of the sequencer keeps, the command keeps.
-/

namespace Sys2Proof.Machine

/-! ### What the steps of a sequence can do -/

/-- A command ends with a record, or in Fatal with the cause CFG_UNRECOGNIZED and no record (rules R168 and R202). -/
theorem finishCommand_cases (i : Instr) (s : State) :
    (∃ r, finishCommand i s = { s with rsp := some r }) ∨ finishCommand i s = raiseFatal .cfgUnrecognized s := by
  have htemp (unit : Int → Int) : (∃ r, answerTemp unit s = { s with rsp := some r }) ∨
      answerTemp unit s = raiseFatal .cfgUnrecognized s := by
    unfold answerTemp
    split
    · next hg =>
      split
      · exact .inl ⟨_, rfl⟩
      · next c hd => exact .inr (by rw [decodeNow_of_good hg hd])
    · exact .inl ⟨_, rfl⟩
  cases i with
  | gettc => exact htemp _
  | gettf => exact htemp _
  | getres =>
    unfold finishCommand answerLevel
    dsimp only
    split
    · exact .inl ⟨_, rfl⟩
    · exact .inr rfl
  | setres _ => exact .inl (answerWritten_ends s)
  | _ => exact .inl ⟨_, rfl⟩

/-- One turn of the discovery loop ends the loop, with a Good candidate as the address or the address kept, or leaves
another turn to come (spec/46_session.md rules R192 and R193). -/
theorem discoverTurn_cases (count : Nat) (rest : List Micro) (s : State) :
    discoverTurn count rest s = (rest, (enumNext s).2) ∨
    (∃ a, validate s.params a = .good ∧ discoverTurn count rest s = (rest, setAddr a (enumNext s).2)) ∨
    ∃ n, discoverTurn count rest s = (.enumNext n :: rest, (enumNext s).2) := by
  have hparams : (enumNext s).2.params = s.params := rfl
  unfold discoverTurn
  rcases henum : enumNext s with ⟨_ | a, t⟩ <;> rw [henum] at hparams <;> dsimp only at hparams ⊢
  · exact .inl rfl
  · rw [hparams]
    split_ifs with hg
    · exact .inr (.inl ⟨a, hg, rfl⟩)
    · exact .inr (.inr ⟨count + 1, rfl⟩)
    · exact .inr (.inr ⟨count, rfl⟩)

/-- The Scratchpad Image and the parasite flag (spec/10_state.md rules R21 and R24). -/
def image (s : State) : (Byte × Byte × Byte × Byte × Byte) × Bool := ((s.tLsb, s.tMsb, s.th, s.tl, s.cfg), s.par)

theorem imageDefault_iff (s : State) :
    ImageDefault s ↔ image s = ((0x00, 0x00, 0x7D, 0xC9, s.params.cfg9), true) := by
  simp [ImageDefault, image, and_assoc]

/-- What a step of a sequence but its last does to the address and to the image: RESET's defaults load them, a turn of
the discovery loop may write a Good address, and any other step keeps the address and writes the image only if it
is one of those that stand behind a gate. -/
theorem microStep_addr_image {m : Micro} (hm : m ≠ .finish) (cmd : Instr) (rest : List Micro) (s : State) :
    ((microStep cmd m rest s).2.addr = s.addr ∧
      (m.ungated = true ∨ image (microStep cmd m rest s).2 = image s)) ∨
    (m = .loadDefaults ∧ (microStep cmd m rest s).2 = loadDefaults s) ∨
    good (microStep cmd m rest s).2 = true := by
  cases m with
  | finish => exact absurd rfl hm
  | loadDefaults => exact .inr (.inl ⟨rfl, rfl⟩)
  | enumNext count =>
    dsimp only [microStep]
    obtain h | ⟨a, hg, h⟩ | ⟨n, h⟩ := discoverTurn_cases count rest s <;> rw [h]
    · exact .inl ⟨rfl, .inr rfl⟩
    · exact .inr (.inr (beq_iff_eq.mpr hg))
    · exact .inl ⟨rfl, .inr rfl⟩
  | readByte k => exact .inl ⟨by simp [microStep, busReadByte_eq], .inl rfl⟩
  | readPower => exact .inl ⟨rfl, .inl rfl⟩
  | setCfg level => exact .inl ⟨rfl, .inl rfl⟩
  | settle => cases hp : s.par <;> simp [microStep, hp, image]
  | _ => exact .inl ⟨rfl, .inr rfl⟩

/-- Only the last step of a sequence raises Fatal. -/
theorem microStep_fatal {m : Micro} (hm : m ≠ .finish) (cmd : Instr) (rest : List Micro) (s : State) :
    (microStep cmd m rest s).2.fatal = s.fatal ∧ (microStep cmd m rest s).2.cause = s.cause := by
  cases m with
  | finish => exact absurd rfl hm
  | enumNext count =>
    dsimp only [microStep]
    obtain h | ⟨a, -, h⟩ | ⟨n, h⟩ := discoverTurn_cases count rest s <;> rw [h] <;> exact ⟨rfl, rfl⟩
  | readByte k => simp [microStep, busReadByte_eq]
  | settle => cases hp : s.par <;> simp [microStep, hp]
  | _ => exact ⟨rfl, rfl⟩

theorem delayOfCfg_le (p : Params) (c : Byte) : delayOfCfg p c ≤ 750 := by
  unfold delayOfCfg delayOfLevel
  split
  · split <;> omega
  · exact le_rfl

theorem loadTimer_toNat {ms : Nat} (h : ms ≤ 750) (s : State) : (loadTimer ms s).tmr.toNat = ms + 1 := by
  rw [loadTimer_tmr, BitVec.toNat_ofNat, Nat.mod_eq_of_lt (by omega)]

/-- A step of a sequence loads `TMR` with at most 751 (spec/10_state.md rule R29). -/
theorem microStep_tmr {m : Micro} (hm : m ≠ .finish) (cmd : Instr) (rest : List Micro) {s : State}
    (ht : s.tmr.toNat ≤ 751) : (microStep cmd m rest s).2.tmr.toNat ≤ 751 := by
  cases m with
  | finish => exact absurd rfl hm
  | enumNext count =>
    dsimp only [microStep]
    obtain h | ⟨a, -, h⟩ | ⟨n, h⟩ := discoverTurn_cases count rest s <;> rw [h] <;> exact ht
  | readByte k => simpa [microStep, busReadByte_eq] using ht
  | convDelay =>
    have hle := delayOfCfg_le s.params s.cfg
    exact (loadTimer_toNat hle s).le.trans (by omega)
  | settle =>
    dsimp only [microStep]
    split
    · exact (loadTimer_toNat (by omega) s).le.trans (by omega)
    · exact ht
  | _ => exact ht

/-! ### Guarded sequences -/

/-- A step that may stand after the defaults of RESET: it is not these, and it writes the image without a gate of its own
only while the address is Good. -/
def Micro.allowed (isGood : Bool) (m : Micro) : Bool := m != .loadDefaults && (isGood || !m.ungated)

theorem Micro.allowed_mono {g g' : Bool} (h : g = true → g' = true) {m : Micro} (hm : m.allowed g = true) :
    m.allowed g' = true := by
  cases g <;> simp_all [Micro.allowed]

theorem guardedSteps_of_all {g : Bool} {steps : List Micro} (h : steps.all (Micro.allowed g) = true) :
    guardedSteps g steps = true := by
  induction steps with
  | nil => rfl
  | cons m steps ih =>
    obtain ⟨hm, hsteps⟩ := List.all_cons ▸ h |> Bool.and_eq_true_iff.mp
    cases m with
    | beginMode => exact ih hsteps
    | loadDefaults => cases hm
    | _ => exact h

/-- A guarded sequence sets the mode first and goes on guarded, or loads the defaults first and writes the image behind
gates only, or has allowed steps only. -/
theorem guardedSteps_cons {g : Bool} {m : Micro} {rest : List Micro} (h : guardedSteps g (m :: rest) = true) :
    (m = .beginMode ∧ guardedSteps g rest = true) ∨
    (m = .loadDefaults ∧ rest.all (Micro.allowed false) = true) ∨
    (m.allowed g = true ∧ rest.all (Micro.allowed g) = true) := by
  cases m with
  | beginMode => exact .inl ⟨rfl, h⟩
  | loadDefaults => exact .inr (.inl ⟨rfl, by simpa [guardedSteps, Micro.allowed, and_comm] using h⟩)
  | _ => exact .inr (.inr (Bool.and_eq_true_iff.mp h))

theorem all_allowed_mono {g g' : Bool} (h : g = true → g' = true) {steps : List Micro}
    (hs : steps.all (Micro.allowed g) = true) : steps.all (Micro.allowed g') = true :=
  List.all_eq_true.mpr fun m hm => Micro.allowed_mono h (List.all_eq_true.mp hs m hm)

/-- In a guarded sequence the next step writes the image without a gate of its own on a Good address only. -/
theorem good_of_ungated {g : Bool} {m : Micro} {rest : List Micro} (h : guardedSteps g (m :: rest) = true)
    (hu : m.ungated = true) : g = true := by
  obtain ⟨rfl, -⟩ | ⟨rfl, -⟩ | ⟨hm, -⟩ := guardedSteps_cons h
  · cases hu
  · cases hu
  · simpa [Micro.allowed, hu] using (Bool.and_eq_true_iff.mp hm).2

/-- A gated sequence puts steps that are allowed on a Good address before the rest, if its gate is open. -/
theorem gated_eq_append (s : State) {steps : List Micro} (h : steps.all (Micro.allowed true) = true)
    (rest : List Micro) : ∃ new, gated s steps rest = new ++ rest ∧ new.all (Micro.allowed (good s)) = true := by
  unfold gated
  split
  · next hg => exact ⟨steps, rfl, hg ▸ h⟩
  · exact ⟨[], rfl, rfl⟩

/-- A step of a sequence but its last puts allowed steps before those that follow it. -/
theorem microStep_eq_append {m : Micro} (hm : m ≠ .finish) (cmd : Instr) (rest : List Micro) (s : State) :
    ∃ new, (microStep cmd m rest s).1 = new ++ rest ∧ new.all (Micro.allowed (good s)) = true := by
  cases m with
  | finish => exact absurd rfl hm
  | enumNext count =>
    dsimp only [microStep]
    obtain h | ⟨a, -, h⟩ | ⟨n, h⟩ := discoverTurn_cases count rest s <;> rw [h]
    · exact ⟨[], rfl, rfl⟩
    · exact ⟨[], rfl, rfl⟩
    · exact ⟨[.enumNext n], rfl, by cases good s <;> rfl⟩
  | pwrDetect => exact gated_eq_append s rfl rest
  | spread n => exact gated_eq_append s (by simp [spreadSteps, Micro.allowed]) rest
  | spwrite => exact gated_eq_append s rfl rest
  | convStart => exact gated_eq_append s rfl rest
  | tempRead => exact gated_eq_append s (by cases s.auto <;> rfl) rest
  | setresBody level => exact gated_eq_append s rfl rest
  | _ => exact ⟨[], rfl, rfl⟩

/-- A step but RESET's defaults keeps a Good address Good. -/
theorem microStep_good {m : Micro} (hm : m ≠ .finish) (hd : m ≠ .loadDefaults) (cmd : Instr) (rest : List Micro)
    {s : State} (hg : good s = true) : good (microStep cmd m rest s).2 = true := by
  obtain ⟨ha, -⟩ | ⟨rfl, -⟩ | h := microStep_addr_image hm cmd rest s
  · exact (good_congr (microStep_frame cmd m rest s).1 ha).trans hg
  · exact absurd rfl hd
  · exact h

/-- A step leaves a guarded sequence guarded. -/
theorem microStep_guarded {m : Micro} (hm : m ≠ .finish) (cmd : Instr) {rest : List Micro} {s : State}
    (h : guardedSteps (good s) (m :: rest) = true) :
    guardedSteps (good (microStep cmd m rest s).2) (microStep cmd m rest s).1 = true := by
  obtain ⟨rfl, hrest⟩ | ⟨rfl, hrest⟩ | ⟨hallowed, hrest⟩ := guardedSteps_cons h
  · exact hrest
  · exact guardedSteps_of_all (all_allowed_mono (g := false) nofun hrest)
  · have hd : m ≠ .loadDefaults := by rintro rfl; cases hallowed
    obtain ⟨new, hsteps, hnew⟩ := microStep_eq_append hm cmd rest s
    have hall : (microStep cmd m rest s).1.all (Micro.allowed (good s)) = true := by
      rw [hsteps, List.all_append, hnew, hrest, Bool.and_self]
    exact guardedSteps_of_all (all_allowed_mono (microStep_good hm hd cmd rest) hall)

/-- A guarded step keeps the image at its defaults while the address is not Good (spec/10_state.md rule R39). -/
theorem microStep_defaults {m : Micro} (hm : m ≠ .finish) (cmd : Instr) {rest : List Micro} {s : State}
    (hguarded : guardedSteps (good s) (m :: rest) = true) (h : good s = false → ImageDefault s) :
    good (microStep cmd m rest s).2 = false → ImageDefault (microStep cmd m rest s).2 := by
  intro hg
  obtain ⟨ha, hw⟩ | ⟨-, hl⟩ | hg' := microStep_addr_image hm cmd rest s
  · have hp := (microStep_frame cmd m rest s).1
    have hgs : good s = false := (good_congr hp ha).symm.trans hg
    obtain hu | hi := hw
    · exact absurd (good_of_ungated hguarded hu) (by simp [hgs])
    · rw [imageDefault_iff, hi, hp]
      exact (imageDefault_iff s).mp (h hgs)
  · rw [hl]
    exact ⟨rfl, rfl, rfl, rfl, rfl, rfl⟩
  · exact absurd hg (by simp [hg'])

/-- A step keeps the address zero while it is not Good. -/
theorem microStep_zeroAddress {m : Micro} (hm : m ≠ .finish) (cmd : Instr) (rest : List Micro) {s : State}
    (h : good s = false → s.addr = Addr.zero) :
    good (microStep cmd m rest s).2 = false → (microStep cmd m rest s).2.addr = Addr.zero := by
  intro hg
  obtain ⟨ha, -⟩ | ⟨-, hl⟩ | hg' := microStep_addr_image hm cmd rest s
  · rw [ha]
    exact h ((good_congr (microStep_frame cmd m rest s).1 ha).symm.trans hg)
  · rw [hl, loadDefaults_addr]
  · exact absurd hg (by simp [hg'])

/-- The sequence of every command is guarded, whatever the address. -/
theorem program_guarded (isGood : Bool) (p : Params) (i : Instr) :
    (program p i).getLast? = some .finish ∧ guardedSteps isGood (program p i) = true := by
  cases i <;> cases isGood <;> exact ⟨rfl, rfl⟩

/-! ### One step of the sequencer -/

/-- The last step of a sequence: the command's end, with the response cycle if it delivers a record. -/
theorem advance_finish (cmd : Instr) (rest : List Micro) {s : State} (ht : s.tmr = 0) :
    advance (inProgress cmd (.finish :: rest) s) =
      { finishCommand cmd s with seq := seqAfter cmd [] (finishCommand cmd s).rsp } := by
  have hadv : advance (inProgress cmd (.finish :: rest) s) =
      { finishCommand cmd (inProgress cmd (.finish :: rest) s) with
        seq := seqAfter cmd [] (finishCommand cmd (inProgress cmd (.finish :: rest) s)).rsp } := if_pos ht
  rw [hadv, finishCommand_inProgress]

/-- What the sequencer does in one step: one millisecond of a delay, nothing in an idle core, the response cycle, a step
of the sequence that others follow, or its last one, which leads to the response cycle or to Fatal. -/
theorem advance_cases {s : State} (h : SeqGuarded s) :
    (s.tmr ≠ 0 ∧ advance s = tick { s with rsp := none }) ∨
    (s.tmr = 0 ∧
      ((s.seq = .idle ∧ advance s = { s with rsp := none }) ∨
       (s.seq = .responding ∧ advance s = { s with seq := .idle }) ∨
       (∃ cmd m rest, s.seq = .busy cmd (m :: rest) ∧ m ≠ .finish ∧ rest ≠ [] ∧
         advance s = inProgress cmd (microStep cmd m rest s).1 (microStep cmd m rest s).2) ∨
       (s.seq ≠ .idle ∧ ∃ r, advance s = { s with seq := .responding, rsp := some r }) ∨
       advance s = { raiseFatal .cfgUnrecognized s with seq := .idle })) := by
  by_cases ht : s.tmr = 0
  · refine .inr ⟨ht, ?_⟩
    rcases hs : s.seq with _ | ⟨cmd, _ | ⟨m, rest⟩⟩ | _
    · exact .inl ⟨rfl, by simp only [advance, ht, hs, if_true]⟩
    · simp [SeqGuarded, hs] at h
    · have hprogress : advance s = advance (inProgress cmd (m :: rest) s) := by
        simp only [advance, inProgress, ht, hs, if_true]
      by_cases hm : m = .finish
      · subst hm
        have hend := advance_finish cmd rest ht
        obtain ⟨r, hr⟩ | hr := finishCommand_cases cmd s <;> rw [hr] at hend
        · exact .inr (.inr (.inr (.inl ⟨nofun, r, hprogress.trans hend⟩)))
        · exact .inr (.inr (.inr (.inr (hprogress.trans hend))))
      · have hrest : rest ≠ [] := by
          rintro rfl
          simp [SeqGuarded, hs, hm] at h
        obtain ⟨-, hstep⟩ := busyStep_inProgress hm cmd hrest ht
        exact .inr (.inr (.inl ⟨cmd, m, rest, rfl, hm, hrest, hprogress.trans hstep⟩))
    · exact .inr (.inl ⟨rfl, advance_responding hs ht⟩)
  · exact .inl ⟨ht, if_neg ht⟩

/-! ### The part of the invariant that a Fatal core keeps too -/

/-- The clauses of the invariant on `TMR`, on the image and on the sequence. -/
structure SequenceInv (s : State) : Prop where
  timer : s.tmr.toNat ≤ 751
  idleTimer : s.seq = .idle → s.tmr = 0
  responseTimer : s.seq = .responding → s.tmr = 0
  defaults : good s = false → ImageDefault s
  guarded : SeqGuarded s

theorem tick_toNat_le (s : State) : (tick s).tmr.toNat ≤ s.tmr.toNat := by
  rw [tick_tmr]
  split
  · simp
  · next h => bv_omega

theorem advance_sequenceInv {s : State} (h : SequenceInv s) : SequenceInv (advance s) := by
  obtain ⟨htimer, hidle, hresponse, hdefaults, hguarded⟩ := h
  obtain ⟨ht, hadv⟩ | ⟨ht, ⟨hs, hadv⟩ | ⟨hs, hadv⟩ | ⟨cmd, m, rest, hs, hm, hrest, hadv⟩ | ⟨-, r, hadv⟩ | hadv⟩ :=
    advance_cases hguarded <;> rw [hadv]
  · exact ⟨(tick_toNat_le _).trans htimer, fun hs => absurd (hidle hs) ht, fun hs => absurd (hresponse hs) ht,
      hdefaults, hguarded⟩
  · exact ⟨htimer, fun _ => ht, fun _ => ht, hdefaults, hguarded⟩
  · exact ⟨htimer, fun _ => ht, fun _ => ht, hdefaults, trivial⟩
  · rw [SeqGuarded, hs] at hguarded
    obtain ⟨hlast, hsteps⟩ := hguarded
    obtain ⟨new, hnew, -⟩ := microStep_eq_append hm cmd rest s
    refine ⟨microStep_tmr hm cmd rest htimer, nofun, nofun, microStep_defaults hm cmd hsteps hdefaults, ?_,
      microStep_guarded hm cmd hsteps⟩
    rw [hnew, List.getLast?_append_of_ne_nil _ hrest, ← List.getLast?_cons_of_ne_nil hrest, hlast]
  · exact ⟨htimer, nofun, fun _ => ht, hdefaults, trivial⟩
  · exact ⟨htimer, fun _ => ht, nofun, hdefaults, trivial⟩

/-! ### From the steps of the sequencer to a whole command -/

/-- What every step of a busy core keeps, a run of it keeps. -/
theorem BusyRun.keeps {P : State → Prop} (hstep : ∀ s, s.seq ≠ .idle → P s → P (advance s)) {s t : State}
    (h : BusyRun s t) (hs : P s) : P t := by
  induction h with
  | refl => exact hs
  | tail _ hlast ih =>
    obtain ⟨hbusy, rfl⟩ := hlast
    exact hstep _ hbusy ih

/-- What the beginning of a command's sequence has and every step of a busy core keeps, the command leaves. -/
theorem exec_keeps {P : State → Prop} (hstep : ∀ s, s.seq ≠ .idle → P s → P (advance s)) {i : Instr} {s t : State}
    (hexec : exec i s = .next t) (hs : s.seq = .idle) (ht : s.tmr = 0) (h : P (beginSequence i s)) : P t := by
  rw [exec_eq_effects] at hexec
  exact Host.Outcome.next.inj hexec ▸ (busyRun_program i hs ht).keeps hstep h

theorem beginSequence_sequenceInv (i : Instr) {s : State} (ht : s.tmr = 0) (h : good s = false → ImageDefault s) :
    SequenceInv (beginSequence i s) :=
  ⟨by simp [ht], nofun, nofun, h, program_guarded _ _ _⟩

/-- Settles O14: the sequencer keeps the image at its defaults in each step, and a command ends where its sequence
does. -/
theorem commandKeepsDefaultsOfANotGoodCore : Obligations.CommandKeepsDefaultsOfANotGoodCore := by
  intro i s _ hdefaults hs ht
  obtain ⟨t, hexec⟩ := exec_next i s
  have hinv : SequenceInv t := exec_keeps (P := SequenceInv) (fun _ _ => advance_sequenceInv) hexec hs ht
    (beginSequence_sequenceInv i ht hdefaults)
  obtain ⟨-, -, hseq, -⟩ := exec_frame hexec
  have hidle : t.seq = .idle := hseq.trans hs
  exact ⟨t, hexec, hinv.defaults, hidle, hinv.idleTimer hidle⟩

/-! ### The invariant of the machine -/

/-- The clauses of the invariant on Fatal, on the address and on the response, with the fact that they rest on: only an
idle core is Fatal (spec/60_exceptions.md rule R203). -/
structure ControlInv (s : State) : Prop where
  cause : s.fatal = true ↔ s.cause ≠ .none
  decoded : s.cause ≠ .modelNoDecode
  zeroAddress : good s = false → s.addr = Addr.zero
  response : s.seq = .responding → s.tmr = 0 ∧ s.fatal = false ∧ s.rsp.isSome = true
  busy : s.seq ≠ .idle → s.fatal = false

theorem advance_controlInv {s : State} (hguarded : SeqGuarded s) (h : ControlInv s) : ControlInv (advance s) := by
  obtain ⟨hcause, hdecoded, hzero, hresponse, hbusy⟩ := h
  obtain ⟨ht, hadv⟩ | ⟨ht, ⟨hs, hadv⟩ | ⟨hs, hadv⟩ | ⟨cmd, m, rest, hs, hm, -, hadv⟩ | ⟨hs, r, hadv⟩ | hadv⟩ :=
    advance_cases hguarded <;> rw [hadv]
  · exact ⟨hcause, hdecoded, hzero, fun hs => absurd (hresponse hs).1 ht, hbusy⟩
  · exact ⟨hcause, hdecoded, hzero, fun hs' => (nomatch hs.symm.trans hs'), hbusy⟩
  · exact ⟨hcause, hdecoded, hzero, nofun, fun hs' => absurd rfl hs'⟩
  · obtain ⟨hfatal, hc⟩ := microStep_fatal hm cmd rest s
    refine ⟨?_, ?_, microStep_zeroAddress hm cmd rest hzero, nofun, fun _ => ?_⟩
    · exact hc ▸ hfatal ▸ hcause
    · exact hc ▸ hdecoded
    · exact hfatal.trans (hbusy (by simp [hs]))
  · exact ⟨hcause, hdecoded, hzero, fun _ => ⟨ht, hbusy hs, rfl⟩, fun _ => hbusy hs⟩
  · exact ⟨by simp, nofun, hzero, nofun, fun hs' => absurd rfl hs'⟩

theorem MachineInv.sequenceInv {s : State} (h : MachineInv s) : SequenceInv s :=
  ⟨h.timer, h.idleTimer, fun hs => (h.response hs).1, h.defaults, h.guarded⟩

theorem MachineInv.controlInv {s : State} (h : MachineInv s) (hf : s.fatal = false) : ControlInv s :=
  ⟨h.cause, h.decoded, h.zeroAddress, h.response, fun _ => hf⟩

/-- The two parts give the invariant where the parameters and `IDX` are those of a state that meets it. -/
theorem MachineInv.of_parts {s t : State} (h : MachineInv s) (hparams : t.params = s.params) (hidx : t.idx = s.idx)
    (hsequence : SequenceInv t) (hcontrol : ControlInv t) : MachineInv t where
  params := hparams ▸ h.params
  index := hidx ▸ hparams ▸ h.index
  cause := hcontrol.cause
  decoded := hcontrol.decoded
  timer := hsequence.timer
  idleTimer := hsequence.idleTimer
  defaults := hsequence.defaults
  zeroAddress := hcontrol.zeroAddress
  response := hcontrol.response
  guarded := hsequence.guarded

theorem advance_machineInv {s : State} (h : MachineInv s) (hf : s.fatal = false) : MachineInv (advance s) := by
  obtain ⟨hparams, hidx, -⟩ := advance_frame s
  exact h.of_parts hparams hidx (advance_sequenceInv h.sequenceInv) (advance_controlInv h.guarded (h.controlInv hf))

theorem beginSequence_machineInv (i : Instr) {s : State} (h : MachineInv s) (hs : s.seq = .idle)
    (hf : s.fatal = false) : MachineInv (beginSequence i s) :=
  h.of_parts rfl rfl (beginSequence_sequenceInv i (h.idleTimer hs) h.defaults)
    ⟨h.cause, h.decoded, h.zeroAddress, nofun, fun _ => hf⟩

theorem exec_machineInv {i : Instr} {s t : State} (h : MachineInv s) (hs : s.seq = .idle) (hf : s.fatal = false)
    (hexec : exec i s = .next t) : MachineInv t := by
  obtain ⟨hparams, hidx, -⟩ := exec_frame hexec
  obtain ⟨hsequence, hcontrol⟩ := exec_keeps (P := fun s => SequenceInv s ∧ ControlInv s)
    (fun _ _ h => ⟨advance_sequenceInv h.1, advance_controlInv h.1.guarded h.2⟩) hexec hs (h.idleTimer hs)
    (have hb := beginSequence_machineInv i h hs hf; ⟨hb.sequenceInv, hb.controlInv hf⟩)
  exact h.of_parts hparams hidx hsequence hcontrol

theorem hardwareReset_machineInv (k : Nat) {s : State} (hp : s.params.WF) : MachineInv (hardwareReset k s) where
  params := hp
  index := Nat.mod_lt _ (Nat.two_pow_pos _)
  cause := by simp
  decoded := nofun
  timer := Nat.zero_le _
  idleTimer := fun _ => rfl
  defaults := fun _ => ⟨rfl, rfl, rfl, rfl, rfl, rfl⟩
  zeroAddress := fun _ => rfl
  response := nofun
  guarded := trivial

/-- The invariant does not look at the inputs, nor, in an idle core, at the response. -/
theorem takeInput_machineInv {s : State} (h : MachineInv s) (hs : s.seq = .idle) : MachineInv (takeInput s) :=
  { h with response := fun hr => nomatch hs.symm.trans hr }

theorem dropInput_machineInv {s : State} (h : MachineInv s) : MachineInv (dropInput s) := { h with }

/-- The answer to an illegal word changes the response only. -/
theorem respondIllegal_machineInv {s : State} (h : MachineInv s) (hs : s.seq = .idle) :
    MachineInv (respondIllegal s) :=
  { h with response := fun hr => nomatch hs.symm.trans hr }

theorem beginIllegalResponse_machineInv {s : State} (h : MachineInv s) (hs : s.seq = .idle) (hf : s.fatal = false) :
    MachineInv (beginIllegalResponse s) :=
  { h with idleTimer := nofun, response := fun _ => ⟨h.idleTimer hs, hf, rfl⟩, guarded := trivial }

/-- Settles O12, by cases on what the step did. -/
theorem stepKeepsTheMachineInvariant : Obligations.StepKeepsTheMachineInvariant := by
  intro s t h hstep
  obtain ⟨k, -, rfl⟩ | ⟨hf, hstep⟩ := step_cases hstep
  · exact hardwareReset_machineInv k h.params
  obtain ⟨hs, i, hexec⟩ | ⟨hs, rfl⟩ | ⟨hs, rfl⟩ | ⟨hs, i, rfl⟩ | ⟨-, rfl | rfl⟩ | ⟨hs, rfl⟩ := hstep
  · exact exec_machineInv (takeInput_machineInv h hs) hs hf hexec
  · exact respondIllegal_machineInv (takeInput_machineInv h hs) hs
  · exact beginIllegalResponse_machineInv (takeInput_machineInv h hs) hs hf
  · exact beginSequence_machineInv i (takeInput_machineInv h hs) hs hf
  · exact advance_machineInv h hf
  · exact advance_machineInv (dropInput_machineInv h) hf
  · exact takeInput_machineInv h hs

/-- Settles O13: the state after reset is what a hardware reset leaves. -/
theorem resetStateMeetsTheMachineInvariant : Obligations.ResetStateMeetsTheMachineInvariant :=
  hardwareReset_machineInv 0 (s := State.reset) Params.reference_wf

/-- Settles O10. -/
theorem resetStateHasTheResetValues : Obligations.ResetStateHasTheResetValues :=
  ⟨rfl, rfl, rfl, rfl, rfl, rfl, rfl, rfl, rfl, rfl, rfl, rfl, rfl, rfl, rfl⟩

end Sys2Proof.Machine
end

section
/-!
SUPPORT. How the delay timer runs out, the levels and their patterns, and that `CONV` gates nothing.
-/

namespace Sys2Proof.Machine

/-! ### The timer -/

/-- Until it runs out, each tick takes one off `TMR` and changes nothing else (spec/10_state.md rule R29). -/
theorem iterate_tick_eq (k n : Nat) (h : k ≤ n) (hn : n < 2 ^ 10) (s : State) :
    tick^[k] { s with tmr := BitVec.ofNat 10 n } = { s with tmr := BitVec.ofNat 10 (n - k) } := by
  induction k with
  | zero => rfl
  | succ k ih =>
    have hne : BitVec.ofNat 10 (n - k) ≠ 0 := by bv_omega
    have hsub : BitVec.ofNat 10 (n - k) - 1 = BitVec.ofNat 10 (n - (k + 1)) := by bv_omega
    rw [Function.iterate_succ_apply', ih (by omega)]
    simp only [tick, hne, if_false, hsub]

theorem tick_iterate_loadTimer {ms k : Nat} (hms : ms ≤ 750) (hk : k ≤ ms + 1) (s : State) :
    tick^[k] (loadTimer ms s) = { loadTimer ms s with tmr := BitVec.ofNat 10 (ms + 1 - k) } :=
  iterate_tick_eq k (ms + 1) hk (by omega) (loadTimer ms s)

/-- Settles O36: after `k` ticks `TMR` holds `ms + 1 - k`. -/
theorem timerWaitsAtLeastTheDelay : Obligations.TimerWaitsAtLeastTheDelay := by
  intro ms k s hms
  refine ⟨loadTimer_toNat hms s, fun hk => ?_, ?_⟩
  · rw [tick_iterate_loadTimer hms (by omega)]
    have hpos : 0 < ms + 1 - k := by omega
    change BitVec.ofNat 10 (ms + 1 - k) ≠ 0
    bv_omega
  · rw [tick_iterate_loadTimer hms le_rfl, Nat.sub_self]
    rfl

/-! ### Levels and patterns -/

/-- Settles O50: the four patterns are pairwise distinct (rule R8), so none hides another. -/
theorem levelsAndPatternsMapBothWays : Obligations.LevelsAndPatternsMapBothWays := by
  intro p hp
  have hd := hp.patterns
  simp only [List.nodup_cons, List.mem_cons, List.not_mem_nil, or_false, not_or] at hd
  obtain ⟨⟨h9_10, h9_11, h9_12⟩, ⟨h10_11, h10_12⟩, h11_12, -⟩ := hd
  refine ⟨?_, ?_, ?_, ?_, fun c hc => ?_, rfl, rfl, rfl, rfl, fun level hl => ?_⟩
  · simp [levelOfCfg]
  · simp [levelOfCfg, Ne.symm h9_10]
  · simp [levelOfCfg, Ne.symm h9_11, Ne.symm h10_11]
  · simp [levelOfCfg, Ne.symm h9_12, Ne.symm h10_12, Ne.symm h11_12]
  · simp_all [levelOfCfg]
  · unfold cfgOfLevel
    split
    · omega
    · omega
    · omega
    · rfl

/-! ### `CONV` gates nothing -/

/-- From two states that differ in `CONV` alone the function leads to two that do. -/
def IgnoresConv (f : State → State) : Prop :=
  ∀ (s : State) (c : Conv), ∃ c', f { s with conv := c } = { f s with conv := c' }

theorem IgnoresConv.comp {f g : State → State} (hg : IgnoresConv g) (hf : IgnoresConv f) :
    IgnoresConv fun s => g (f s) := by
  intro s c
  obtain ⟨c', hc'⟩ := hf s c
  obtain ⟨c'', hc''⟩ := hg (f s) c'
  exact ⟨c'', (congrArg g hc').trans hc''⟩

/-- The gate does not look at `CONV` (spec/40_address_validator.md rule R103). -/
theorem IgnoresConv.of_gate {f g : State → State} (hclosed : ∀ {s}, good s = false → f s = s)
    (hopen : ∀ {s}, good s = true → f s = g s) (h : IgnoresConv g) : IgnoresConv f := by
  intro s c
  cases hg : good s
  · exact ⟨c, by rw [hclosed (s := { s with conv := c }) hg, hclosed hg]⟩
  · rw [hopen (s := { s with conv := c }) hg, hopen hg]
    exact h s c

theorem spread_ignoresConv (n : Nat) : IgnoresConv (spread n) :=
  .of_gate (fun h => spread_closed h n) (fun h => spread_good h n) fun _ c => ⟨c, rfl⟩

theorem spwrite_ignoresConv : IgnoresConv spwrite :=
  .of_gate spwrite_closed spwrite_good fun _ c => ⟨c, rfl⟩

theorem setresFrame_ignoresConv (level : Nat) : IgnoresConv (setresFrame level) := by
  intro s c
  obtain ⟨c', h⟩ := spread_ignoresConv s.params.nFull s c
  obtain ⟨c'', h'⟩ := spwrite_ignoresConv (setLevel level (spread s.params.nFull s)) c'
  exact ⟨c'', (congrArg (fun t => spwrite (setLevel level t)) h).trans h'⟩

theorem discoverLoop_ignoresConv (turns count : Nat) : IgnoresConv (discoverLoop turns count) := by
  induction turns generalizing count with
  | zero => exact fun _ c => ⟨c, rfl⟩
  | succ turns ih =>
    intro s c
    have henum : enumNext { s with conv := c } = ((enumNext s).1, { (enumNext s).2 with conv := c }) := rfl
    unfold discoverLoop
    rw [henum]
    rcases enumNext s with ⟨_ | a, t⟩
    · exact ⟨c, rfl⟩
    · dsimp only
      split_ifs
      · exact ⟨c, rfl⟩
      · exact ih _ t c
      · exact ih _ t c

theorem answerTemp_ignoresConv (unit : Int → Int) : IgnoresConv (answerTemp unit) := by
  intro s c
  have hg : good { s with conv := c } = good s := rfl
  have hd : decodeNow { s with conv := c } = decodeNow s := rfl
  unfold answerTemp
  rw [hg, hd]
  cases good s
  · exact ⟨c, rfl⟩
  · cases decodeNow s <;> exact ⟨c, rfl⟩

theorem finishCommand_ignoresConv (cmd : Instr) : IgnoresConv (finishCommand cmd) := by
  intro s c
  cases cmd with
  | gettc => exact answerTemp_ignoresConv _ s c
  | gettf => exact answerTemp_ignoresConv _ s c
  | getres =>
    unfold finishCommand answerLevel
    dsimp only
    cases levelOfCfg s.params s.cfg <;> exact ⟨c, rfl⟩
  | setres level =>
    have hg : good { s with conv := c } = good s := rfl
    unfold finishCommand answerWritten
    dsimp only
    rw [hg]
    cases good s <;> exact ⟨c, rfl⟩
  | _ => exact ⟨c, rfl⟩

theorem stepEffect_ignoresConv (cmd : Instr) (m : Micro) : IgnoresConv (stepEffect cmd m) := by
  cases m with
  | enumNext count => exact fun s c => discoverLoop_ignoresConv (s.bus.candidates.length + 1) count s c
  | pwrDetect => exact .of_gate pwrDetect_closed pwrDetect_good fun _ c => ⟨c, rfl⟩
  | spread n => exact spread_ignoresConv n
  | spwrite => exact spwrite_ignoresConv
  | convStart => exact .of_gate convStart_closed convStart_good fun _ c => ⟨_, rfl⟩
  | tempRead => exact .of_gate tempRead_closed tempRead_good fun _ c => ⟨_, rfl⟩
  | setresBody level =>
    exact .of_gate (fun h => by simp [stepEffect, h]) (fun h => by simp [stepEffect, h]) (setresFrame_ignoresConv level)
  | readByte k =>
    intro s c
    refine ⟨c, ?_⟩
    simp only [stepEffect, setSp]
    split <;> rfl
  | settle =>
    intro s c
    cases hp : s.par <;> exact ⟨c, by simp [stepEffect, settle, hp, delay, timerExpires, loadTimer, emit]⟩
  | finish => exact finishCommand_ignoresConv cmd
  | setConv c => exact fun _ _ => ⟨c, rfl⟩
  | loadDefaults => exact fun _ _ => ⟨.idle, rfl⟩
  | _ => exact fun _ c => ⟨c, rfl⟩

theorem effects_ignoresConv (cmd : Instr) (steps : List Micro) : IgnoresConv (effects cmd steps) := by
  induction steps with
  | nil => exact fun _ c => ⟨c, rfl⟩
  | cons m steps ih => exact ih.comp (stepEffect_ignoresConv cmd m)

/-- Settles O23: a command's meaning is the effects of its program, and no effect looks at `CONV`. -/
theorem conversionStateGatesNothing : Obligations.ConversionStateGatesNothing := by
  intro i s c
  obtain ⟨c', h⟩ := effects_ignoresConv i (program s.params i) s c
  exact ⟨_, _, exec_eq_effects i s, exec_eq_effects i _, by rw [h]⟩

end Sys2Proof.Machine
end

section
/-!
SUPPORT. Which registers each command may write: each step of a sequence has the registers that it writes, and a command
those of the steps of its program.
-/

namespace Sys2Proof.Machine

/-! ### What a step writes -/

/-- The registers that commands write. -/
inductive Register where
  | addr | tLsb | tMsb | th | tl | cfg | par | auto | conv | fatal | cause | tmr

/-- The register holds in `t` what it held in `s`. -/
def Register.Kept (s t : State) : Register → Prop
  | .addr => t.addr = s.addr
  | .tLsb => t.tLsb = s.tLsb
  | .tMsb => t.tMsb = s.tMsb
  | .th => t.th = s.th
  | .tl => t.tl = s.tl
  | .cfg => t.cfg = s.cfg
  | .par => t.par = s.par
  | .auto => t.auto = s.auto
  | .conv => t.conv = s.conv
  | .fatal => t.fatal = s.fatal
  | .cause => t.cause = s.cause
  | .tmr => t.tmr = s.tmr

/-- The register is one of the first `n` bytes of the image (spec/10_state.md rule R21). -/
def Register.InImage (n : Nat) : Register → Prop
  | .tLsb => 1 ≤ n
  | .tMsb => 2 ≤ n
  | .th => 3 ≤ n
  | .tl => 4 ≤ n
  | .cfg => 5 ≤ n
  | _ => False

/-- What a step of the sequence of the command `cmd`, run to its end, may write. -/
def Micro.Writes (cmd : Instr) : Micro → Register → Prop
  | .beginMode, r => r = .auto
  | .loadDefaults, r => r.InImage 5 ∨ r = .addr ∨ r = .par ∨ r = .conv
  | .enumNext _, r => r = .addr
  | .pwrDetect, r => r = .par
  | .spread n, r => r.InImage n
  | .spwrite, r => r = .tmr
  | .convStart, r => r = .conv ∨ r = .tmr
  | .tempRead, r => r.InImage 2 ∨ r = .conv ∨ r = .tmr
  | .setresBody _, r => r.InImage 5 ∨ r = .tmr
  | .readByte k, r => r.InImage (k + 1)
  | .readPower, r => r = .par
  | .setConv _, r => r = .conv
  | .setCfg _, r => r = .cfg
  | .convDelay, r => r = .tmr
  | .settle, r => r = .tmr
  | .finish, r => (r = .fatal ∨ r = .cause) ∧ (cmd = .gettc ∨ cmd = .gettf ∨ cmd = .getres)
  | .enumReset, _ => False
  | .busReset, _ => False
  | .select, _ => False
  | .skip, _ => False
  | .write _, _ => False

/-- From `s` to `t` no register but those of `w` is written, and `TMR`, if it is, ends at zero. -/
def WritesOnly (w : Register → Prop) (s t : State) : Prop :=
  (∀ r : Register, r.Kept s t ∨ w r) ∧ (t.tmr = s.tmr ∨ t.tmr = 0)

theorem WritesOnly.refl (w : Register → Prop) (s : State) : WritesOnly w s s :=
  ⟨fun r => .inl (by cases r <;> rfl), .inl rfl⟩

theorem Register.Kept.trans {r : Register} {s t u : State} (h : r.Kept s t) (h' : r.Kept t u) : r.Kept s u := by
  cases r <;> exact Eq.trans h' h

theorem WritesOnly.trans {w : Register → Prop} {s t u : State} (h : WritesOnly w s t) (h' : WritesOnly w t u) :
    WritesOnly w s u := by
  obtain ⟨hkept, htmr⟩ := h
  obtain ⟨hkept', htmr'⟩ := h'
  refine ⟨fun r => ?_, ?_⟩
  · obtain hr | hr := hkept r
    · exact (hkept' r).imp_left hr.trans
    · exact .inr hr
  · obtain ht | ht := htmr'
    · rw [ht]; exact htmr
    · exact .inr ht

theorem WritesOnly.mono {w w' : Register → Prop} (hw : ∀ r, w r → w' r) {s t : State} (h : WritesOnly w s t) :
    WritesOnly w' s t :=
  ⟨fun r => (h.1 r).imp_right (hw r), h.2⟩

/-- A gated sequence writes nothing when its gate is closed. -/
theorem WritesOnly.of_gate {w : Register → Prop} {s t : State} (hclosed : good s = false → t = s)
    (hopen : good s = true → WritesOnly w s t) : WritesOnly w s t := by
  cases h : good s
  · exact hclosed h ▸ .refl w s
  · exact hopen h

theorem discoverLoop_writes (turns count : Nat) (s : State) :
    WritesOnly (· = .addr) s (discoverLoop turns count s) := by
  induction turns generalizing count s with
  | zero => exact .refl _ s
  | succ turns ih =>
    have hnext : WritesOnly (· = .addr) s (enumNext s).2 := .refl _ s
    have hset (a : Addr) (t : State) : WritesOnly (· = .addr) t (setAddr a t) :=
      ⟨fun r => by cases r <;> simp [Register.Kept], .inl rfl⟩
    unfold discoverLoop
    rcases henum : enumNext s with ⟨_ | a, t⟩ <;> rw [henum] at hnext <;> dsimp only at hnext ⊢
    · exact hnext
    · split_ifs
      · exact hnext.trans (hset a t)
      · exact hnext.trans (ih _ t)
      · exact hnext.trans (ih _ t)

/-- The first `n` bytes of the image are read. -/
theorem spread_writes (n : Nat) (s : State) : WritesOnly (Register.InImage n) s (spread n s) := by
  refine .of_gate (fun h => spread_closed h n) fun h => ?_
  have hbyte {c : Prop} [Decidable c] (b b' : Byte) : (if c then b else b') = b' ∨ c := by
    by_cases hc : c
    · exact .inr hc
    · exact .inl (if_neg hc)
  rw [spread_good h]
  refine ⟨fun r => ?_, .inl rfl⟩
  cases r with
  | tLsb | tMsb | th | tl | cfg => exact hbyte _ _
  | _ => exact .inl rfl

theorem spwrite_writes (s : State) : WritesOnly (· = .tmr) s (spwrite s) := by
  refine .of_gate spwrite_closed fun h => ?_
  rw [spwrite_good h]
  refine ⟨fun r => by cases r <;> simp [Register.Kept], ?_⟩
  cases s.par <;> simp

theorem pwrDetect_writes (s : State) : WritesOnly (· = .par) s (pwrDetect s) := by
  refine .of_gate pwrDetect_closed fun h => ?_
  rw [pwrDetect_good h]
  exact ⟨fun r => by cases r <;> simp [Register.Kept], .inl rfl⟩

theorem convStart_writes (s : State) : WritesOnly (fun r => r = .conv ∨ r = .tmr) s (convStart s) := by
  refine .of_gate convStart_closed fun h => ?_
  rw [convStart_good h]
  exact ⟨fun r => by cases r <;> simp [Register.Kept], .inr rfl⟩

theorem tempRead_writes (s : State) :
    WritesOnly (fun r => r.InImage 2 ∨ r = .conv ∨ r = .tmr) s (tempRead s) := by
  refine .of_gate tempRead_closed fun h => ?_
  rw [tempRead_good h]
  refine ⟨fun r => by cases r <;> simp [Register.Kept, Register.InImage, afterTempRead], ?_⟩
  cases ha : s.auto <;> simp [afterTempRead, ha]

theorem Register.InImage.of_lt {n : Nat} {r : Register} (h : r.InImage n) : r.InImage 5 := by
  cases r <;> simp_all [Register.InImage]

theorem setresFrame_writes (level : Nat) (s : State) :
    WritesOnly (fun r => r.InImage 5 ∨ r = .tmr) s (setresFrame level s) := by
  have hread := (spread_writes s.params.nFull s).mono (w' := fun r => r.InImage 5 ∨ r = .tmr) fun _ hr => .inl hr.of_lt
  have hset (t : State) : WritesOnly (fun r => r.InImage 5 ∨ r = .tmr) t (setLevel level t) :=
    ⟨fun r => by cases r <;> simp [Register.Kept, Register.InImage, setLevel], .inl rfl⟩
  exact (hread.trans (hset _)).trans ((spwrite_writes _).mono fun _ => .inr)

theorem finishCommand_writes (cmd : Instr) (s : State) :
    WritesOnly (Micro.Writes cmd .finish) s (finishCommand cmd s) := by
  cases cmd with
  | gettc | gettf | getres =>
    obtain ⟨_, h⟩ | ⟨_, h⟩ := finishCommand_ends _ s <;> rw [h]
    · exact .refl _ s
    · exact ⟨fun r => by cases r <;> simp [Register.Kept, Micro.Writes], .inl rfl⟩
  | setres level =>
    obtain ⟨_, h⟩ := answerWritten_ends s
    rw [finishCommand, h]
    exact .refl _ s
  | _ => exact .refl _ s

theorem stepEffect_writes (cmd : Instr) (m : Micro) (s : State) :
    WritesOnly (m.Writes cmd) s (stepEffect cmd m s) := by
  cases m with
  | enumNext count => exact discoverLoop_writes _ _ s
  | pwrDetect => exact pwrDetect_writes s
  | spread n => exact spread_writes n s
  | spwrite => exact spwrite_writes s
  | convStart => exact convStart_writes s
  | tempRead => exact tempRead_writes s
  | setresBody level =>
    exact .of_gate (fun h => by simp [stepEffect, h]) fun h => by
      rw [stepEffect, if_pos h]
      exact setresFrame_writes level s
  | readByte k =>
    refine ⟨fun r => ?_, .inl (by simp [stepEffect, busReadByte_eq])⟩
    cases r <;> simp [Register.Kept, Micro.Writes, Register.InImage, stepEffect, busReadByte_eq] <;> omega
  | settle =>
    simp only [stepEffect, settle]
    split
    · exact ⟨fun r => by cases r <;> simp [Register.Kept, Micro.Writes], .inr rfl⟩
    · exact .refl _ s
  | finish => exact finishCommand_writes cmd s
  | convDelay => exact ⟨fun r => by cases r <;> simp [Register.Kept, Micro.Writes, stepEffect, convDelay], .inr rfl⟩
  | enumReset | busReset | select | skip | write => exact .refl _ s
  | readPower => exact ⟨fun r => by cases r <;> simp [Register.Kept, Micro.Writes, stepEffect, busReadBit_eq], .inl rfl⟩
  | setCfg => exact ⟨fun r => by cases r <;> simp [Register.Kept, Micro.Writes, stepEffect, setLevel], .inl rfl⟩
  | beginMode | loadDefaults | setConv =>
    exact ⟨fun r => by cases r <;> simp [Register.Kept, Micro.Writes, Register.InImage, stepEffect], .inl rfl⟩

theorem effects_writes {w : Register → Prop} {cmd : Instr} {steps : List Micro}
    (h : ∀ m ∈ steps, ∀ r, m.Writes cmd r → w r) (s : State) : WritesOnly w s (effects cmd steps s) := by
  induction steps generalizing s with
  | nil => exact .refl w s
  | cons m steps ih =>
    exact ((stepEffect_writes cmd m s).mono (h m (by simp))).trans (ih (fun m' hm' => h m' (by simp [hm'])) _)

/-! ### What a command writes -/

/-- The commands that may write a register (spec/10_state.md rules R20 to R29). -/
def MayWrite (i : Instr) : Register → Prop
  | .addr => IsSession i
  | .tLsb => IsSession i ∨ i = .gettc ∨ i = .gettf ∨ i = .getres ∨ (∃ l, i = .setres l) ∨ ∃ n, i = .sprd n ∧ 1 ≤ n
  | .tMsb => IsSession i ∨ i = .gettc ∨ i = .gettf ∨ i = .getres ∨ (∃ l, i = .setres l) ∨ ∃ n, i = .sprd n ∧ 2 ≤ n
  | .th => IsSession i ∨ i = .getres ∨ (∃ l, i = .setres l) ∨ ∃ n, i = .sprd n ∧ 3 ≤ n
  | .tl => IsSession i ∨ i = .getres ∨ (∃ l, i = .setres l) ∨ ∃ n, i = .sprd n ∧ 4 ≤ n
  | .cfg => IsSession i ∨ i = .getres ∨ (∃ l, i = .setres l) ∨ ∃ n, i = .sprd n ∧ 5 ≤ n
  | .par => IsSession i
  | .auto => i = .begin
  | .conv => IsSession i ∨ i = .gettc ∨ i = .gettf ∨ i = .reqbc ∨ i = .waitcv
  | .fatal => i = .gettc ∨ i = .gettf ∨ i = .getres
  | .cause => i = .gettc ∨ i = .gettf ∨ i = .getres
  | .tmr => i = .gettc ∨ i = .gettf ∨ i = .waitcv ∨ i = .spwr ∨ ∃ l, i = .setres l

/-- The commands that read the first `n` bytes of the image or more, or set it to its defaults. -/
theorem mayWrite_of_inImage {i : Instr} {n : Nat} {r : Register} (h : r.InImage n)
    (hi : IsSession i ∨ i = .getres ∨ (∃ l, i = .setres l) ∨ ∃ k, i = .sprd k ∧ n ≤ k) : MayWrite i r := by
  have hle {m : Nat} (hm : m ≤ n) :
      IsSession i ∨ i = .getres ∨ (∃ l, i = .setres l) ∨ ∃ k, i = .sprd k ∧ m ≤ k :=
    hi.imp_right <| .imp_right <| .imp_right fun ⟨k, hik, hk⟩ => ⟨k, hik, hm.trans hk⟩
  cases r with
  | tLsb | tMsb => exact (hle h).imp_right fun hw => .inr (.inr hw)
  | th | tl | cfg => exact hle h
  | _ => cases h

/-- What the steps of RESET write. -/
theorem mayWrite_of_session {i : Instr} (hs : IsSession i) {n : Nat} {r : Register}
    (h : (r.InImage 5 ∨ r = .addr ∨ r = .par ∨ r = .conv) ∨ r = .addr ∨ r = .par ∨ r.InImage n) : MayWrite i r := by
  obtain (hr | rfl | rfl | rfl) | rfl | rfl | hr := h
  · exact mayWrite_of_inImage hr (.inl hs)
  · exact hs
  · exact hs
  · exact .inl hs
  · exact hs
  · exact hs
  · exact mayWrite_of_inImage hr (.inl hs)

/-- No step of a command's program writes a register that the command may not write. -/
theorem program_writes {p : Params} {i : Instr} {r : Register} (h : ∃ m ∈ program p i, m.Writes i r) :
    MayWrite i r := by
  cases i with
  | begin =>
    by_cases ha : r = .auto
    · exact ha ▸ rfl
    · exact mayWrite_of_session (.inl rfl) (n := p.nFull) (by simpa [program, Micro.Writes, ha] using h)
  | reset => exact mayWrite_of_session (.inr rfl) (n := p.nFull) (by simpa [program, Micro.Writes] using h)
  | isvalid | ispara | getaddr => simp [program, Micro.Writes] at h
  | gettc | gettf =>
    obtain (hr | rfl | rfl) | rfl | rfl :
        (r.InImage 2 ∨ r = .conv ∨ r = .tmr) ∨ r = .fatal ∨ r = .cause := by
      simpa [program, Micro.Writes] using h
    · cases r with
      | tLsb | tMsb => simp [MayWrite]
      | _ => simp [Register.InImage] at hr
    all_goals simp [MayWrite]
  | getres =>
    obtain hr | rfl | rfl : r.InImage p.nFull ∨ r = .fatal ∨ r = .cause := by
      simpa [program, Micro.Writes] using h
    · exact mayWrite_of_inImage hr (.inr (.inl rfl))
    all_goals simp [MayWrite]
  | setres level =>
    obtain hr | rfl : r.InImage 5 ∨ r = .tmr := by simpa [program, Micro.Writes] using h
    · exact mayWrite_of_inImage hr (.inr (.inr (.inl ⟨level, rfl⟩)))
    · simp [MayWrite]
  | reqbc =>
    obtain rfl : r = .conv := by simpa [program, Micro.Writes] using h
    simp [MayWrite]
  | waitcv =>
    obtain rfl | rfl : r = .tmr ∨ r = .conv := by simpa [program, Micro.Writes] using h
    all_goals simp [MayWrite]
  | sprd n =>
    have hr : r.InImage n := by simpa [program, Micro.Writes] using h
    exact mayWrite_of_inImage hr (.inr (.inr (.inr ⟨n, rfl, le_rfl⟩)))
  | spwr =>
    obtain rfl : r = .tmr := by simpa [program, Micro.Writes] using h
    simp [MayWrite]

theorem exec_writes {i : Instr} {s t : State} (h : exec i s = .next t) : WritesOnly (MayWrite i) s t := by
  rw [exec_eq_effects] at h
  exact Host.Outcome.next.inj h ▸ effects_writes (fun m hm _ hw => program_writes ⟨m, hm, hw⟩) s

/-- Settles O17: a register that is not kept is one that the command may write. -/
theorem registersHaveOnlyTheirWriters : Obligations.RegistersHaveOnlyTheirWriters := by
  intro i s t h
  obtain ⟨hparams, hidx, hseq, hinputs⟩ := exec_frame h
  obtain ⟨hkept, htmr⟩ := exec_writes h
  have hwrites (r : Register) : ¬r.Kept s t → MayWrite i r := (hkept r).resolve_left
  exact ⟨hwrites .addr, hwrites .tLsb, hwrites .tMsb, hwrites .th, hwrites .tl, hwrites .cfg, hwrites .par,
    hwrites .auto, hwrites .conv, hwrites .fatal, hwrites .cause,
    fun hne => ⟨htmr.resolve_left hne, hwrites .tmr hne⟩, hidx, hparams, hseq, hinputs⟩

/-- Settles O16: the address is a register that only session commands may write, and no command writes a parameter. -/
theorem onlySessionCommandsChangeTheAddress : Obligations.OnlySessionCommandsChangeTheAddress := by
  intro i s t hi h
  obtain ⟨hparams, -⟩ := exec_frame h
  obtain ⟨hkept, -⟩ := exec_writes h
  have haddr : t.addr = s.addr := (hkept .addr).resolve_right hi
  exact ⟨haddr, by rw [hparams, haddr]⟩

end Sys2Proof.Machine
end

section
/-!
SUPPORT. The transport port and the trace: a step of the sequencer performs the request that stands on the port and no
other, every step leaves its events after those before it, and the presence bits are taken but not looked at.
-/

namespace Sys2Proof.Machine

/-! ### The port -/

theorem outPorts_of_pendingRequest {s : State} {q : Request} (h : pendingRequest s = some q) :
    (outPorts s).btReq = true ∧ (outPorts s).btOp = q.btOp ∧ (outPorts s).btAddr = q.btAddr ∧
      (outPorts s).btData = q.btData ∧ (outPorts s).btHold = q.btHold := by
  simp [outPorts, h]

/-- Settles O58: the port carries the fields of the pending request, which are written out for each of the eight. -/
theorem transportPortCarriesTheRequest : Obligations.TransportPortCarriesTheRequest := by
  intro s
  refine ⟨fun h => by simp [outPorts, h], fun q h => ?_⟩
  obtain ⟨hreq, hop, haddr, hdata, hhold⟩ := outPorts_of_pendingRequest h
  refine ⟨hreq, ?_⟩
  cases q with
  | select a => exact ⟨hop, haddr⟩
  | write b hold => exact ⟨hop, hdata, hhold⟩
  | _ => exact hop

/-! ### One step of the sequencer at the transport -/

/-- From `s` to `t` the request `q` is performed: its event and its answer (spec/20_memory.md rules R52 and R56). -/
def PerformsRequest (q : Request) (s t : State) : Prop :=
  t.trace = s.trace ++ [eventOf q (s.bus.answer q).1] ∧ t.bus = (s.bus.answer q).2

/-- From `s` to `t` the transport is not used, and at most a delay begins. -/
def PerformsNoRequest (s t : State) : Prop :=
  t.bus = s.bus ∧ (t.trace = s.trace ∨ ∃ ms : Nat, t.trace = s.trace ++ [.delay ms])

theorem transact_performs (q : Request) (s : State) : PerformsRequest q s (transact q s).2 := ⟨rfl, rfl⟩

theorem microStep_performsRequest {m : Micro} {s : State} {q : Request} (h : requestOf s m = some q) (cmd : Instr)
    (rest : List Micro) : PerformsRequest q s (microStep cmd m rest s).2 := by
  cases m with
  | enumNext count =>
    cases h
    dsimp only [microStep]
    obtain hd | ⟨a, -, hd⟩ | ⟨n, hd⟩ := discoverTurn_cases count rest s <;> rw [hd] <;>
      exact transact_performs .enumNext s
  | readByte k =>
    cases h
    exact ⟨setSp_trace _ _ _, setSp_bus _ _ _⟩
  | enumReset | busReset | select | skip | write | readPower =>
    cases h
    exact transact_performs _ s
  | _ => cases h

theorem microStep_performsNoRequest {m : Micro} {s : State} (h : requestOf s m = none) (cmd : Instr)
    (rest : List Micro) : PerformsNoRequest s (microStep cmd m rest s).2 := by
  cases m with
  | enumReset | enumNext | busReset | select | skip | write | readByte | readPower => cases h
  | convDelay => exact ⟨rfl, .inr ⟨_, rfl⟩⟩
  | settle =>
    dsimp only [microStep]
    split
    · exact ⟨rfl, .inr ⟨10, rfl⟩⟩
    · exact ⟨rfl, .inl rfl⟩
  | finish =>
    dsimp only [microStep]
    obtain ⟨_, hf⟩ | ⟨_, hf⟩ := finishCommand_ends cmd s <;> rw [hf] <;> exact ⟨rfl, .inl rfl⟩
  | _ => exact ⟨rfl, .inl rfl⟩

/-- A core whose sequence has a step to come and whose `TMR` is zero goes on by that step. -/
theorem advance_busy {s : State} {cmd : Instr} {m : Micro} {rest : List Micro} (ht : s.tmr = 0)
    (hs : s.seq = .busy cmd (m :: rest)) :
    advance s = { (microStep cmd m rest { s with rsp := none }).2 with
      seq := seqAfter cmd (microStep cmd m rest { s with rsp := none }).1
        (microStep cmd m rest { s with rsp := none }).2.rsp } := by
  simp only [advance, ht, hs, if_true]

/-- A core that waits, or has no step to come, writes `TMR`, `SEQ` and the response only, whatever the transport is
going to answer. -/
theorem advance_of_not_busy {s : State} (h : ¬∃ cmd m rest, s.tmr = 0 ∧ s.seq = .busy cmd (m :: rest)) :
    ∃ tmr seq rsp, ∀ b : Bus,
      advance { s with bus := b } = { s with bus := b, tmr := tmr, seq := seq, rsp := rsp } := by
  by_cases ht : s.tmr = 0
  · rcases hs : s.seq with _ | ⟨cmd, _ | ⟨m, rest⟩⟩ | _
    · exact ⟨s.tmr, .idle, none, fun b => by simp only [advance, ht, if_true]⟩
    · exact ⟨s.tmr, .idle, none, fun b => by simp only [advance, ht, if_true]⟩
    · exact absurd ⟨cmd, m, rest, ht, hs⟩ h
    · exact ⟨s.tmr, .idle, s.rsp, fun b => by simp only [advance, ht, if_true]⟩
  · exact ⟨_, s.seq, none, fun b => by simp only [advance, ht, if_false, tick]; rfl⟩

theorem pendingRequest_busy {s : State} {cmd : Instr} {m : Micro} {rest : List Micro} (ht : s.tmr = 0)
    (hs : s.seq = .busy cmd (m :: rest)) : pendingRequest s = requestOf s m := by
  simp only [pendingRequest, ht, hs, if_true]

theorem pendingRequest_of_not_busy {s : State} (h : ¬∃ cmd m rest, s.tmr = 0 ∧ s.seq = .busy cmd (m :: rest)) :
    pendingRequest s = none := by
  unfold pendingRequest
  split_ifs with ht
  · split
    · next hs => exact absurd ⟨_, _, _, ht, hs⟩ h
    all_goals rfl
  · rfl

/-- The request of a step does not depend on the response. -/
theorem requestOf_rsp (m : Micro) (s : State) (r : Option Response) :
    requestOf { s with rsp := r } m = requestOf s m := by
  cases m <;> rfl

/-- Settles O57: a busy core performs the request of the step that is next, and a core that waits, or has no step to
come, leaves the transport and the trace alone. -/
theorem sequencerPerformsTheRequestOnItsPort : Obligations.SequencerPerformsTheRequestOnItsPort := by
  intro s
  by_cases h : ∃ cmd m rest, s.tmr = 0 ∧ s.seq = .busy cmd (m :: rest)
  · obtain ⟨cmd, m, rest, ht, hs⟩ := h
    rw [advance_busy ht hs, pendingRequest_busy ht hs, ← requestOf_rsp m s none]
    exact ⟨fun q hq => microStep_performsRequest hq cmd rest, fun hq => microStep_performsNoRequest hq cmd rest⟩
  · obtain ⟨tmr, seq, rsp, hadv⟩ := advance_of_not_busy h
    rw [pendingRequest_of_not_busy h, show advance s = _ from hadv s.bus]
    exact ⟨nofun, fun _ => ⟨rfl, .inl rfl⟩⟩

/-! ### The trace only grows -/

theorem advance_appends (s : State) : s.trace <+: (advance s).trace := by
  obtain ⟨hrequest, hnone⟩ := sequencerPerformsTheRequestOnItsPort s
  rcases hq : pendingRequest s with _ | q
  · obtain ⟨-, h | ⟨ms, h⟩⟩ := hnone hq <;> rw [h]
    exact List.prefix_append _ _
  · rw [(hrequest q hq).1]
    exact List.prefix_append _ _

/-- A gated sequence only appends to the trace if it does so when its gate is open. -/
theorem appends_of_gate {s t : State} (hclosed : good s = false → t = s)
    (hopen : good s = true → s.trace <+: t.trace) : s.trace <+: t.trace := by
  cases h : good s
  · rw [hclosed h]
  · exact hopen h

theorem spread_appends (n : Nat) (s : State) : s.trace <+: (spread n s).trace :=
  appends_of_gate (fun h => spread_closed h n) fun h => spread_good h n ▸ List.prefix_append _ _

theorem spwrite_appends (s : State) : s.trace <+: (spwrite s).trace :=
  appends_of_gate spwrite_closed fun h => spwrite_good h ▸ List.prefix_append _ _

theorem enumNext_appends (s : State) : s.trace <+: (enumNext s).2.trace := List.prefix_append _ _

theorem discoverLoop_appends (turns count : Nat) (s : State) : s.trace <+: (discoverLoop turns count s).trace := by
  induction turns generalizing count s with
  | zero => exact List.prefix_rfl
  | succ turns ih =>
    have hnext := enumNext_appends s
    unfold discoverLoop
    rcases henum : enumNext s with ⟨_ | a, t⟩ <;> rw [henum] at hnext <;> dsimp only at hnext ⊢
    · exact hnext
    · split_ifs
      · exact hnext
      · exact hnext.trans (ih _ t)
      · exact hnext.trans (ih _ t)

theorem stepEffect_appends (cmd : Instr) (m : Micro) (s : State) : s.trace <+: (stepEffect cmd m s).trace := by
  cases m with
  | enumNext count => exact discoverLoop_appends _ _ s
  | pwrDetect =>
    exact appends_of_gate pwrDetect_closed fun h => by
      rw [stepEffect, pwrDetect_good h]
      exact List.prefix_append _ _
  | spread n => exact spread_appends n s
  | spwrite => exact spwrite_appends s
  | convStart =>
    exact appends_of_gate convStart_closed fun h => by
      rw [stepEffect, convStart_good h]
      exact List.prefix_append _ _
  | tempRead =>
    exact appends_of_gate tempRead_closed fun h => by
      rw [stepEffect, tempRead_good h]
      exact List.prefix_append _ _
  | setresBody level =>
    dsimp only [stepEffect]
    split
    · exact (spread_appends _ s).trans (spwrite_appends (setLevel level _))
    · exact List.prefix_rfl
  | readByte k =>
    rw [stepEffect, setSp_trace]
    exact List.prefix_append _ _
  | settle =>
    dsimp only [stepEffect, settle]
    split
    · exact List.prefix_append _ _
    · exact List.prefix_rfl
  | finish =>
    rw [stepEffect]
    obtain ⟨_, h⟩ | ⟨_, h⟩ := finishCommand_ends cmd s
    · rw [h]
    · rw [h, raiseFatal_trace]
  | beginMode | loadDefaults | setConv | setCfg => exact List.prefix_rfl
  | enumReset | busReset | select | skip | write | readPower | convDelay => exact List.prefix_append _ _

theorem effects_appends (cmd : Instr) (steps : List Micro) (s : State) :
    s.trace <+: (effects cmd steps s).trace := by
  induction steps generalizing s with
  | nil => exact List.prefix_rfl
  | cons m steps ih => exact (stepEffect_appends cmd m s).trans (ih _)

theorem exec_appends {i : Instr} {s t : State} (h : exec i s = .next t) : s.trace <+: t.trace := by
  rw [exec_eq_effects] at h
  exact Host.Outcome.next.inj h ▸ effects_appends i _ s

/-- Settles O21, by cases on what the step did: commands and the sequencer append to the trace, and all else keeps
it. -/
theorem stepOnlyAppendsToTheTrace : Obligations.StepOnlyAppendsToTheTrace := by
  intro s t h
  obtain ⟨k, -, rfl⟩ | ⟨-, hstep⟩ := step_cases h
  · exact List.prefix_rfl
  obtain ⟨-, i, hexec⟩ | ⟨-, rfl⟩ | ⟨-, rfl⟩ | ⟨-, i, rfl⟩ | ⟨-, rfl | rfl⟩ | ⟨-, rfl⟩ := hstep
  · exact exec_appends (s := takeInput s) hexec
  · exact List.prefix_rfl
  · exact List.prefix_rfl
  · exact List.prefix_rfl
  · exact advance_appends s
  · exact advance_appends (dropInput s)
  · exact List.prefix_rfl

/-! ### The presence bits are discarded -/

/-- The same core with other presence bits to come. -/
def withPresence (answers : Script Bool) (s : State) : State := { s with bus := { s.bus with presence := answers } }

/-- From two states that differ in the presence bits alone the function leads to two that do. -/
def IgnoresPresence (f : State → State) : Prop :=
  ∀ (s : State) (answers : Script Bool), ∃ answers', f (withPresence answers s) = withPresence answers' (f s)

theorem IgnoresPresence.comp {f g : State → State} (hg : IgnoresPresence g) (hf : IgnoresPresence f) :
    IgnoresPresence fun s => g (f s) := by
  intro s answers
  obtain ⟨answers', h⟩ := hf s answers
  obtain ⟨answers'', h'⟩ := hg (f s) answers'
  exact ⟨answers'', (congrArg g h).trans h'⟩

/-- With the presence bits put back, the two ends are the same. -/
theorem IgnoresPresence.restored {f : State → State} (hf : IgnoresPresence f) (s : State) (answers : Script Bool) :
    withPresence (f s).bus.presence (f (withPresence answers s)) = f s := by
  obtain ⟨answers', h⟩ := hf s answers
  rw [h]
  rfl

/-- The gate does not look at the transport (spec/40_address_validator.md rule R103). -/
theorem IgnoresPresence.of_gate {f g : State → State} (hclosed : ∀ {s}, good s = false → f s = s)
    (hopen : ∀ {s}, good s = true → f s = g s) (h : IgnoresPresence g) : IgnoresPresence f := by
  intro s answers
  cases hg : good s
  · exact ⟨answers, by rw [hclosed (s := withPresence answers s) hg, hclosed hg]⟩
  · rw [hopen (s := withPresence answers s) hg, hopen hg]
    exact h s answers

theorem spread_ignoresPresence (n : Nat) : IgnoresPresence (spread n) :=
  .of_gate (fun h => spread_closed h n) (fun h => spread_good h n) fun _ _ => ⟨_, rfl⟩

theorem spwrite_ignoresPresence : IgnoresPresence spwrite :=
  .of_gate spwrite_closed spwrite_good fun _ _ => ⟨_, rfl⟩

theorem setresFrame_ignoresPresence (level : Nat) : IgnoresPresence (setresFrame level) := by
  have hset : IgnoresPresence (setLevel level) := fun _ answers => ⟨answers, rfl⟩
  intro s answers
  exact (spwrite_ignoresPresence.comp (hset.comp (spread_ignoresPresence s.params.nFull))) s answers

theorem enumNext_withPresence (answers : Script Bool) (s : State) :
    enumNext (withPresence answers s) = ((enumNext s).1, withPresence answers (enumNext s).2) := by
  rcases hc : s.bus.candidates with _ | ⟨a, rest⟩
  · rw [enumNext_nil hc, enumNext_nil (by exact hc)]
    rfl
  · rw [enumNext_cons hc, enumNext_cons (by exact hc)]
    rfl

theorem discoverLoop_ignoresPresence (turns count : Nat) : IgnoresPresence (discoverLoop turns count) := by
  induction turns generalizing count with
  | zero => exact fun _ answers => ⟨answers, rfl⟩
  | succ turns ih =>
    intro s answers
    unfold discoverLoop
    rw [enumNext_withPresence]
    rcases enumNext s with ⟨_ | a, t⟩
    · exact ⟨answers, rfl⟩
    · dsimp only [withPresence]
      split_ifs
      · exact ⟨answers, rfl⟩
      · exact ih _ t answers
      · exact ih _ t answers

/-- The end of a command does not look at the transport. -/
theorem finishCommand_withPresence (cmd : Instr) (answers : Script Bool) (s : State) :
    finishCommand cmd (withPresence answers s) = withPresence answers (finishCommand cmd s) := by
  have hg : good (withPresence answers s) = good s := rfl
  have htemp (unit : Int → Int) :
      answerTemp unit (withPresence answers s) = withPresence answers (answerTemp unit s) := by
    have hd : decodeNow (withPresence answers s) = decodeNow s := rfl
    unfold answerTemp
    rw [hg, hd]
    cases good s
    · rfl
    · cases decodeNow s <;> rfl
  cases cmd with
  | gettc => exact htemp _
  | gettf => exact htemp _
  | getres =>
    unfold finishCommand answerLevel
    dsimp only [withPresence]
    cases levelOfCfg s.params s.cfg <;> rfl
  | setres level =>
    unfold finishCommand answerWritten
    dsimp only
    rw [hg]
    cases good s <;> rfl
  | _ => rfl

theorem setSp_withPresence (k : Nat) (b : Byte) (answers : Script Bool) (s : State) :
    setSp k b (withPresence answers s) = withPresence answers (setSp k b s) := by
  unfold setSp
  split <;> rfl

theorem stepEffect_ignoresPresence (cmd : Instr) (m : Micro) : IgnoresPresence (stepEffect cmd m) := by
  cases m with
  | enumNext count =>
    exact fun s answers => discoverLoop_ignoresPresence (s.bus.candidates.length + 1) count s answers
  | pwrDetect => exact .of_gate pwrDetect_closed pwrDetect_good fun _ _ => ⟨_, rfl⟩
  | spread n => exact spread_ignoresPresence n
  | spwrite => exact spwrite_ignoresPresence
  | convStart => exact .of_gate convStart_closed convStart_good fun _ _ => ⟨_, rfl⟩
  | tempRead => exact .of_gate tempRead_closed tempRead_good fun _ _ => ⟨_, rfl⟩
  | setresBody level =>
    exact .of_gate (fun h => by simp [stepEffect, h]) (fun h => by simp [stepEffect, h])
      (setresFrame_ignoresPresence level)
  | readByte k => exact fun s answers => ⟨answers, setSp_withPresence k _ answers (busReadByte s).2⟩
  | settle => exact fun s answers => ⟨answers, (apply_ite (withPresence answers) (s.par = true) (delay 10 s) s).symm⟩
  | finish => exact fun s answers => ⟨answers, finishCommand_withPresence cmd answers s⟩
  | _ => exact fun _ _ => ⟨_, rfl⟩

theorem effects_ignoresPresence (cmd : Instr) (steps : List Micro) : IgnoresPresence (effects cmd steps) := by
  induction steps with
  | nil => exact fun _ answers => ⟨answers, rfl⟩
  | cons m steps ih => exact ih.comp (stepEffect_ignoresPresence cmd m)

/-- A step of a sequence leaves the same steps to come and the same state but for the presence bits. -/
theorem microStep_withPresence (cmd : Instr) (m : Micro) (rest : List Micro) (answers : Script Bool) (s : State) :
    ∃ answers', microStep cmd m rest (withPresence answers s) =
      ((microStep cmd m rest s).1, withPresence answers' (microStep cmd m rest s).2) := by
  cases m with
  | enumNext count =>
    refine ⟨answers, ?_⟩
    simp only [microStep, discoverTurn, enumNext_withPresence]
    rcases enumNext s with ⟨_ | a, t⟩
    · rfl
    · dsimp only [withPresence]
      split_ifs <;> rfl
  | readByte k => exact ⟨answers, congrArg (rest, ·) (setSp_withPresence k _ answers (busReadByte s).2)⟩
  | settle =>
    exact ⟨answers, congrArg (rest, ·) (apply_ite (withPresence answers) (s.par = true) (loadTimer 10 s) s).symm⟩
  | finish => exact ⟨answers, congrArg ([], ·) (finishCommand_withPresence cmd answers s)⟩
  | _ => exact ⟨_, rfl⟩

theorem advance_ignoresPresence : IgnoresPresence advance := by
  intro s answers
  by_cases h : ∃ cmd m rest, s.tmr = 0 ∧ s.seq = .busy cmd (m :: rest)
  · obtain ⟨cmd, m, rest, ht, hs⟩ := h
    obtain ⟨answers', hstep⟩ := microStep_withPresence cmd m rest answers { s with rsp := none }
    refine ⟨answers', ?_⟩
    rw [advance_busy ht hs, advance_busy (s := withPresence answers s) ht hs,
      show { withPresence answers s with rsp := none } = withPresence answers { s with rsp := none } from rfl, hstep]
    rfl
  · obtain ⟨tmr, seq, rsp, hadv⟩ := advance_of_not_busy h
    exact ⟨answers, by rw [show advance s = _ from hadv s.bus]; exact hadv _⟩

/-- Settles O24: neither the effects that a command is made of nor a step of the sequencer look at the presence bits. -/
theorem presenceBitsAreDiscarded : Obligations.PresenceBitsAreDiscarded := by
  intro s answers
  exact ⟨fun i => ⟨_, _, exec_eq_effects i s, exec_eq_effects i _, (effects_ignoresPresence i _).restored s answers⟩,
    advance_ignoresPresence.restored s answers⟩

end Sys2Proof.Machine
end

section
/-!
SUPPORT. The decoder and the encoder in terms of the two fields of a word: a word decodes to the command whose operation
code and operand its fields hold (spec/30_encoding.md rules R71 to R73 and R76).
-/

namespace Sys2Proof.Machine

/-! ### A word and its two fields -/

/-- A word is its field `op` before its field `arg` (rule R71). -/
theorem opField_append_argField (w : BitVec 12) : opField w ++ argField w = w := by
  exact (BitVec.extractLsb'_append_extractLsb'_eq_extractLsb' rfl).trans BitVec.extractLsb'_eq_self

/-- Two words with the same two fields are the same word. -/
theorem eq_iff_fields {w w' : BitVec 12} : w = w' ↔ opField w = opField w' ∧ argField w = argField w' := by
  refine ⟨fun h => h ▸ ⟨rfl, rfl⟩, fun ⟨hop, harg⟩ => ?_⟩
  rw [← opField_append_argField w, hop, harg, opField_append_argField]

/-- A command has a word exactly when its operand fits the field `arg` (rule R73). -/
theorem wellFormed_iff (i : Instr) : i.wellFormed = true ↔ operandOf i < 256 := by
  cases i with
  | setres level => exact decide_eq_true_iff
  | sprd n => exact decide_eq_true_iff
  | _ => exact iff_of_true rfl (by decide)

/-- The field `arg` of a well-formed command's word holds its operand. -/
theorem argField_encode_toNat {i : Instr} (h : i.wellFormed = true) : (argField (encode i)).toNat = operandOf i := by
  obtain ⟨-, harg⟩ := Laws.EncodedFields.of_fields i
  rw [harg, BitVec.toNat_ofNat, Nat.mod_eq_of_lt ((wellFormed_iff i).mp h)]

/-! ### The decoder by the fields -/

theorem withoutArg_eq_ok_iff {i j : Instr} {w : BitVec 12} : withoutArg i w = .ok j ↔ argField w = 0 ∧ i = j := by
  unfold withoutArg
  split <;> simp_all

/-- A word decodes to the command whose operation code and operand its fields hold. -/
theorem decode_eq_ok_iff {w : BitVec 12} {i : Instr} :
    decode w = .ok i ↔ opField w = opcodeOf i ∧ (argField w).toNat = operandOf i := by
  constructor
  · intro h
    unfold decode at h
    split at h
    case h_8 hop | h_12 hop =>
      cases h
      exact ⟨BitVec.eq_of_toNat_eq hop, rfl⟩
    case h_14 => cases h
    all_goals
      next hop =>
      obtain ⟨harg, rfl⟩ := withoutArg_eq_ok_iff.mp h
      exact ⟨BitVec.eq_of_toNat_eq hop, by rw [harg]; rfl⟩
  · rintro ⟨hop, harg⟩
    have hzero (h : operandOf i = 0) : argField w = 0 := BitVec.eq_of_toNat_eq (harg.trans h)
    cases i with
    | setres level => simp only [decode, hop, opcodeOf]; exact congrArg (Except.ok ∘ Instr.setres) harg
    | sprd n => simp only [decode, hop, opcodeOf]; exact congrArg (Except.ok ∘ Instr.sprd) harg
    | _ => simp only [decode, hop, opcodeOf]; exact withoutArg_eq_ok_iff.mpr ⟨hzero rfl, rfl⟩

/-- Settles O1: the two fields of a command's word hold its operation code and its operand, which the decoder reads. -/
theorem decodeOfEncodeIsTheCommand : Obligations.DecodeOfEncodeIsTheCommand := by
  intro i h
  obtain ⟨hop, -⟩ := Laws.EncodedFields.of_fields i
  exact decode_eq_ok_iff.mpr ⟨hop, argField_encode_toNat h⟩

/-- Settles O2: the word and the encoded word of the command it decodes to have the same two fields. -/
theorem encodeOfDecodedWordIsTheWord : Obligations.EncodeOfDecodedWordIsTheWord := by
  intro w i h
  obtain ⟨hop, harg⟩ := decode_eq_ok_iff.mp h
  have hi : i.wellFormed = true := (wellFormed_iff i).mpr (harg ▸ (argField w).isLt)
  obtain ⟨hop', -⟩ := Laws.EncodedFields.of_fields i
  exact ⟨hi, eq_iff_fields.mpr
    ⟨hop'.trans hop.symm, BitVec.eq_of_toNat_eq ((argField_encode_toNat hi).trans harg.symm)⟩⟩

/-- Settles O5: the fields of each word are the operation code and the operand of its command. -/
theorem sampleWordsDecodeAsTheMapSays : Obligations.SampleWordsDecodeAsTheMapSays := by
  refine ⟨?_, ?_, ?_, ?_, ?_, ?_, ?_, ?_⟩ <;> exact decode_eq_ok_iff.mpr (by decide)

/-! ### Legal and illegal words -/

/-- A command has no operand, or is SETRES or SPRD (rule R73). -/
theorem mem_plainCommands_or (i : Instr) : i ∈ plainCommands ∨ (∃ level, i = .setres level) ∨ ∃ n, i = .sprd n := by
  cases i with
  | setres level => exact .inr (.inl ⟨level, rfl⟩)
  | sprd n => exact .inr (.inr ⟨n, rfl⟩)
  | _ => exact .inl (by decide)

theorem operandOf_of_mem_plainCommands : ∀ i ∈ plainCommands, operandOf i = 0 := by decide

/-- The legal words: any `arg` for SETRES and SPRD, zero for the other commands (rules R72 and R73). -/
theorem exists_decode_eq_ok_iff (w : BitVec 12) :
    (∃ i, decode w = .ok i) ↔
      opField w ∈ [0x8, 0xC] ∨ (opField w ∈ plainCommands.map opcodeOf ∧ argField w = 0) := by
  simp only [decode_eq_ok_iff]
  constructor
  · rintro ⟨i, hop, harg⟩
    obtain hi | ⟨level, rfl⟩ | ⟨n, rfl⟩ := mem_plainCommands_or i
    · exact .inr ⟨hop ▸ List.mem_map_of_mem hi,
        BitVec.eq_of_toNat_eq (harg.trans (operandOf_of_mem_plainCommands i hi))⟩
    · exact .inl (by simp [hop, opcodeOf])
    · exact .inl (by simp [hop, opcodeOf])
  · rintro (hop | ⟨hop, harg⟩)
    · obtain h | h : opField w = 0x8 ∨ opField w = 0xC := by simpa using hop
      · exact ⟨.setres (argField w).toNat, h, rfl⟩
      · exact ⟨.sprd (argField w).toNat, h, rfl⟩
    · obtain ⟨i, hi, hop⟩ := List.mem_map.mp hop
      exact ⟨i, hop.symm, by rw [harg, operandOf_of_mem_plainCommands i hi]; rfl⟩

theorem exists_decode_eq_error_iff (w : BitVec 12) : (∃ e, decode w = .error e) ↔ ¬∃ i, decode w = .ok i := by
  cases decode w <;> simp

/-- The illegal words are those of rule R76: the three reserved operation codes, and a non-zero `arg` where there is no
operand. -/
theorem illegal_iff (w : BitVec 12) :
    (∃ e, decode w = .error e) ↔
      opField w ∈ [0x0, 0xE, 0xF] ∨ (opField w ∈ plainCommands.map opcodeOf ∧ argField w ≠ 0) := by
  have hreserved : ∀ op : BitVec 4, op ∈ [0x0, 0xE, 0xF] ↔ op ∉ [0x8, 0xC] ∧ op ∉ plainCommands.map opcodeOf := by
    decide
  have hplain : ∀ op ∈ plainCommands.map opcodeOf, op ∉ [0x8, 0xC] := by decide
  have hp := hplain (opField w)
  rw [exists_decode_eq_error_iff, exists_decode_eq_ok_iff, hreserved]
  tauto

/-! ### The opcode map -/

/-- A row of the map covers a word by its operation code and, where the row is of a command without an operand, only
when `arg` is zero. -/
theorem covers_of_mem_opcodeMap {r : OpcodeRow} (hr : r ∈ opcodeMap) (w : BitVec 12) :
    r.covers w = (opField w == opField r.pattern && (argField r.mask == 0 || argField w == 0)) := by
  have hrow : ∀ r ∈ opcodeMap, opField r.mask = BitVec.allOnes 4 ∧ argField r.pattern = 0 ∧
      (argField r.mask = 0 ∨ argField r.mask = BitVec.allOnes 8) := by decide
  obtain ⟨hop, hpattern, harg⟩ := hrow r hr
  have hfields : w &&& r.mask = r.pattern ↔
      opField w &&& opField r.mask = opField r.pattern ∧ argField w &&& argField r.mask = argField r.pattern := by
    simp only [eq_iff_fields, opField, argField, BitVec.extractLsb'_and]
  rw [Bool.eq_iff_iff, OpcodeRow.covers, beq_iff_eq, hfields, hop, hpattern, BitVec.and_allOnes]
  obtain harg | harg := harg
  · simp [harg]
  · rw [harg, BitVec.and_allOnes]
    simp

/-- One row of the map covers a legal word, and none an illegal one, by cases on the 16 operation codes. -/
theorem length_rows_covering (w : BitVec 12) :
    (opcodeMap.filter fun r => r.covers w).length =
      if opField w ∈ [0x8, 0xC] ∨ (opField w ∈ plainCommands.map opcodeOf ∧ argField w = 0) then 1 else 0 := by
  have hcount : ∀ (op : BitVec 4) (argZero : Bool),
      (opcodeMap.filter fun r => op == opField r.pattern && (argField r.mask == 0 || argZero)).length =
        if op ∈ [0x8, 0xC] ∨ (op ∈ plainCommands.map opcodeOf ∧ argZero = true) then 1 else 0 := by decide
  rw [List.filter_congr fun r hr => covers_of_mem_opcodeMap hr w, hcount]
  simp only [beq_iff_eq]

/-- Settles O4: the words that a row covers are the legal ones, and no two rows have the same operation code. -/
theorem opcodeMapCoversEachLegalWordOnce : Obligations.OpcodeMapCoversEachLegalWordOnce := by
  intro w
  rw [exists_decode_eq_error_iff, exists_decode_eq_ok_iff, length_rows_covering]
  exact ⟨fun h => if_pos h, fun h => if_neg h⟩

end Sys2Proof.Machine
end

section
/-!
SUPPORT. What a step answers, one rule per input: an idle core accepts a word, and a busy core goes on and leaves a word
waiting (spec/30_encoding.md rules R70 and R76).
-/

namespace Sys2Proof.Machine

/-! ### The step of an idle core -/

section

variable {s : State} {w : BitVec 12} {i : Instr} {rest : List Input}

theorem takeInput_eq {x : Input} (hin : s.inputs = x :: rest) :
    takeInput s = { s with inputs := rest, rsp := none } := by
  rw [takeInput, dropInput, hin, List.tail_cons]

theorem cmdReady_iff (s : State) : cmdReady s = true ↔ Ready s := by simp [cmdReady, Ready]

theorem nextAction_command (hready : Ready s) (hin : s.inputs = .command w :: rest) :
    nextAction s = acceptCommand w s := by
  obtain ⟨hs, hf⟩ := hready
  simp [nextAction, hin, unlessFatal, hs, hf]

theorem nextAction_start (hready : Ready s) (hin : s.inputs = .start w :: rest) :
    nextAction s = acceptStart w s := by
  obtain ⟨hs, hf⟩ := hready
  simp [nextAction, hin, unlessFatal, hs, hf]

theorem step_command_legal (hready : Ready s) (hin : s.inputs = .command w :: rest) (hd : decode w = .ok i) :
    step s = exec i { s with inputs := rest, rsp := none } := by
  simp only [step, nextAction_command hready hin, acceptCommand, hd, takeInput_eq hin]

theorem step_command_illegal {e : IllegalWord} (hready : Ready s) (hin : s.inputs = .command w :: rest)
    (hd : decode w = .error e) : step s = .next { s with inputs := rest, rsp := some ⟨true, 0, 0, 0⟩ } := by
  simp only [step, nextAction_command hready hin, acceptCommand, hd, takeInput_eq hin]
  rfl

theorem step_start_legal (hready : Ready s) (hin : s.inputs = .start w :: rest) (hd : decode w = .ok i) :
    step s = .next (beginSequence i { s with inputs := rest, rsp := none }) := by
  simp only [step, nextAction_start hready hin, acceptStart, hd, takeInput_eq hin]

theorem step_start_illegal {e : IllegalWord} (hready : Ready s) (hin : s.inputs = .start w :: rest)
    (hd : decode w = .error e) :
    step s = .next { s with seq := .responding, inputs := rest, rsp := some ⟨true, 0, 0, 0⟩ } := by
  simp only [step, nextAction_start hready hin, acceptStart, hd, takeInput_eq hin]
  rfl

/-- An idle core with no word presented waits. -/
theorem step_idle (hready : Ready s) (hin : s.inputs.head? = some .clock ∨ s.inputs.head? = none) :
    step s = .next (takeInput s) := by
  obtain ⟨hs, hf⟩ := hready
  obtain hin | hin := hin <;> simp [step, nextAction, hin, unlessFatal, hs, hf]

end

/-! ### The step of a busy core -/

/-- What the sequencer goes on from: the clock has gone by, and a word that is presented stays pending. -/
def letClockGoBy (s : State) : State := if s.inputs.head? = some .clock then dropInput s else s

/-- A busy core goes on by one step of the sequencer. -/
theorem step_busy {s : State} (hf : s.fatal = false) (hs : s.seq ≠ .idle)
    (hin : ∀ k, s.inputs.head? ≠ some (.hwReset k)) : step s = .next (advance (letClockGoBy s)) := by
  unfold letClockGoBy
  rcases hhead : s.inputs.head? with _ | (w | w | _ | k)
  case some.hwReset => exact absurd hhead (hin k)
  all_goals simp [step, nextAction, hhead, unlessFatal, hs, hf]

/-! ### The words a core accepts -/

/-- Settles O7, by the rule for a legal word presented in each of the two ways. -/
theorem stepRunsTheDecodedCommand : Obligations.StepRunsTheDecodedCommand := fun _ _ _ _ hready hd =>
  ⟨fun hin => step_command_legal hready hin hd, fun hin => step_start_legal hready hin hd⟩

/-- Settles O3: the illegal words by their fields, and the step that answers one. -/
theorem illegalWordsAreRefusedWithAnAnswer : Obligations.IllegalWordsAreRefusedWithAnAnswer := fun w =>
  ⟨illegal_iff w, fun _ _ hready hin ⟨_, hd⟩ => step_command_illegal hready hin hd⟩

/-- Settles O11: a busy core takes one step of the sequencer, which leaves the inputs as they are. -/
theorem stepThatAcceptsNoWord : Obligations.StepThatAcceptsNoWord := by
  intro s hf
  refine ⟨fun hs => ⟨?_, ?_, ?_, ?_⟩, fun hs => ⟨?_, ?_⟩⟩
  · simp [cmdReady, hs]
  · intro w rest hin
    have hpending : letClockGoBy s = s := by obtain hin | hin := hin <;> simp [letClockGoBy, hin]
    have hnoReset (k : Nat) : s.inputs.head? ≠ some (.hwReset k) := by obtain hin | hin := hin <;> simp [hin]
    exact ⟨by rw [step_busy hf hs hnoReset, hpending], (advance_frame s).2.2⟩
  · intro rest hin
    have hclock : letClockGoBy s = { s with inputs := rest } := by simp [letClockGoBy, dropInput, hin]
    exact ⟨by rw [step_busy hf hs (by simp [hin]), hclock], (advance_frame { s with inputs := rest }).2.2⟩
  · intro hin
    have hnone : letClockGoBy s = s := by simp [letClockGoBy, hin]
    exact ⟨by rw [step_busy hf hs (by simp [hin]), hnone], (advance_frame s).2.2.trans hin⟩
  · intro rest hin
    rw [step_idle ⟨hs, hf⟩ (.inl (by rw [hin]; rfl)), takeInput_eq hin]
  · intro hin
    rw [step_idle ⟨hs, hf⟩ (.inr (by rw [hin]; rfl)), takeInput, dropInput, hin, List.tail_nil, ← hin]

/-! ### The response cycle and the output ports -/

theorem rspValid_iff (s : State) : rspValid s = true ↔ s.seq = .responding ∧ ∃ r, s.rsp = some r := by
  simp [rspValid, Option.isSome_iff_exists]

/-- The last step of a sequence: the command's end, and the response cycle if it delivers a record. -/
theorem advance_last {s : State} {cmd : Instr} (hs : s.seq = .busy cmd [.finish]) (ht : s.tmr = 0) :
    (∃ r, advance s = { s with seq := .responding, rsp := some r }) ∨
      ∃ c, advance s = { raiseFatal c s with seq := .idle } := by
  have hadv := advance_busy ht hs
  simp only [microStep] at hadv
  obtain ⟨r, h⟩ | ⟨c, h⟩ := finishCommand_ends cmd { s with rsp := none } <;> rw [h] at hadv
  · exact .inl ⟨r, hadv⟩
  · exact .inr ⟨c, hadv⟩

/-- Settles O59: the response cycle is one step of the sequencer, and the last step of a sequence and an illegal word
lead to it. -/
theorem responseStandsForOneCycle : Obligations.ResponseStandsForOneCycle := by
  refine ⟨?_, ?_, ?_⟩
  · intro s r hs ht hf hr hin
    have hnext : advance (letClockGoBy s) = { s with
        seq := .idle
        inputs := if s.inputs.head? = some .clock then s.inputs.tail else s.inputs } := by
      unfold letClockGoBy
      split
      · exact advance_responding hs ht
      · exact advance_responding hs ht
    refine ⟨by simp [cmdReady, hs], (rspValid_iff s).mpr ⟨hs, r, hr⟩, _, step_busy hf (by simp [hs]) hin, ?_, ?_, hnext⟩
    · rw [hnext]; exact (cmdReady_iff _).mpr ⟨rfl, hf⟩
    · rw [hnext]; rfl
  · intro s cmd hs ht
    obtain ⟨r, h⟩ | ⟨c, h⟩ := advance_last hs ht <;> rw [h]
    · exact .inl ⟨rfl, rfl, rfl⟩
    · exact .inr ⟨rfl, rfl, rfl⟩
  · intro s w rest hready ht hin ⟨e, hd⟩
    have ⟨hs, _⟩ := hready
    exact ⟨_, step_start_illegal hready hin hd, rfl, rfl, rfl,
      (advance_responding (by rfl) (by exact ht)).trans (by rw [hs])⟩

theorem pendingRequest_of_cmdReady {s : State} (h : cmdReady s = true) : pendingRequest s = none := by
  obtain ⟨hs, -⟩ := (cmdReady_iff s).mp h
  exact pendingRequest_of_not_busy (by simp [hs])

/-- In a response cycle with a record, and in no other state, the record stands on the response channel. -/
theorem rspValid_outPorts_iff (s : State) :
    (outPorts s).rspValid = true ↔ s.seq = .responding ∧ ∃ r, s.rsp = some r ∧ (outPorts s).rspErr = r.err ∧
      (outPorts s).rspSt = r.st ∧ (outPorts s).rspVal = r.val ∧ (outPorts s).rspAddr = r.addr := by
  constructor
  · intro h
    obtain ⟨hs, r, hr⟩ := (rspValid_iff s).mp h
    have hport : rspOnPort s = some r := (if_pos h).trans hr
    exact ⟨hs, r, hr, by simp [outPorts, hport]⟩
  · rintro ⟨hs, r, hr, -⟩
    exact (rspValid_iff s).mpr ⟨hs, r, hr⟩

/-- Settles O60: an idle core has neither a pending request nor a record on its channel, and the causes have the codes
0, 1 and 2. -/
theorem outputPortsFollowTheState : Obligations.OutputPortsFollowTheState := by
  intro s
  refine ⟨cmdReady_iff s, rfl, fun hreq => ?_, fun hvalid => ?_, rspValid_outPorts_iff s, rfl, ?_⟩
  · refine Bool.eq_false_iff.mpr fun hready => ?_
    simp [outPorts, pendingRequest_of_cmdReady hready] at hreq
  · obtain ⟨hs, -⟩ := (rspValid_iff s).mp hvalid
    simp [outPorts, cmdReady, hs]
  · cases hc : s.cause <;> simp [outPorts, Cause.code, hc]

end Sys2Proof.Machine
end

section
/-!
SUPPORT. What every command answers: it ends with a record that is no error, or goes Fatal without one, and only its
last step writes `FATAL` and `CAUSE` (spec/30_encoding.md rule R74, spec/60_exceptions.md rule R203).
-/

namespace Sys2Proof.Machine

/-- No step of a sequence but its last writes `FATAL` or `CAUSE`. -/
theorem writes_of_ne_finish {m : Micro} (hm : m ≠ .finish) {cmd : Instr} {r : Register} (h : m.Writes cmd r) :
    r ≠ .fatal ∧ r ≠ .cause := by
  cases m with
  | finish => exact absurd rfl hm
  | _ => constructor <;> rintro rfl <;> simp [Micro.Writes, Register.InImage] at h

theorem effects_fatal {steps : List Micro} (hfin : Micro.finish ∉ steps) (cmd : Instr) (s : State) :
    (effects cmd steps s).fatal = s.fatal ∧ (effects cmd steps s).cause = s.cause := by
  obtain ⟨hkept, -⟩ := effects_writes (w := fun r => r ≠ .fatal ∧ r ≠ .cause)
    (fun m hm _ => writes_of_ne_finish (ne_of_mem_of_not_mem hm hfin)) (cmd := cmd) s
  exact ⟨(hkept .fatal).resolve_right (by simp), (hkept .cause).resolve_right (by simp)⟩

/-- The record is no error, carries the outcome of the address in `s`, and an address for GETADDR only. -/
def AnswersOutcome (cmd : Instr) (s : State) (r : Response) : Prop :=
  r.err = false ∧ r.st = status s ∧ (cmd ≠ .getaddr → r.addr = 0)

/-- A temperature read ends with a record of the address's outcome, or in Fatal. -/
theorem answerTemp_answers (cmd : Instr) (unit : Int → Int) (s : State) :
    (∃ r, answerTemp unit s = { s with rsp := some r } ∧ AnswersOutcome cmd s r) ∨
      ∃ c, answerTemp unit s = raiseFatal c s := by
  unfold answerTemp
  split
  · next hg =>
    split
    · exact .inl ⟨_, rfl, rfl, (status_of_good hg).symm, fun _ => rfl⟩
    · exact .inr ⟨_, rfl⟩
  · exact .inl ⟨_, rfl, rfl, rfl, fun _ => rfl⟩

/-- A command's last step delivers a record of the address's outcome, or raises Fatal. -/
theorem finishCommand_answers (cmd : Instr) (s : State) :
    (∃ r, finishCommand cmd s = { s with rsp := some r } ∧ AnswersOutcome cmd s r) ∨
      ∃ c, finishCommand cmd s = raiseFatal c s := by
  cases cmd with
  | gettc => exact answerTemp_answers _ _ s
  | gettf => exact answerTemp_answers _ _ s
  | getres =>
    dsimp only [finishCommand, answerLevel]
    split
    · exact .inl ⟨_, rfl, rfl, rfl, fun _ => rfl⟩
    · exact .inr ⟨_, rfl⟩
  | setres level =>
    dsimp only [finishCommand, answerWritten]
    split
    · next hg => exact .inl ⟨_, rfl, rfl, (status_of_good hg).symm, fun _ => rfl⟩
    · exact .inl ⟨_, rfl, rfl, rfl, fun _ => rfl⟩
  | getaddr => exact .inl ⟨_, rfl, rfl, rfl, fun h => absurd rfl h⟩
  | _ => exact .inl ⟨_, rfl, rfl, rfl, fun _ => rfl⟩

/-- Settles O19: a command's meaning is the effects of its program, of which only the last step ends it. -/
theorem everyCommandAnswersOrGoesFatal : Obligations.EveryCommandAnswersOrGoesFatal := by
  intro i s
  obtain ⟨steps, hprog, hfin⟩ := program_eq_append_finish s.params i
  have hexec : exec i s = .next (finishCommand i (effects i steps s)) := by
    rw [exec_eq_effects, hprog, effects_append]
    rfl
  refine ⟨_, hexec, ?_⟩
  obtain ⟨hfatal, hcause⟩ := effects_fatal hfin i s
  obtain ⟨r, h, herr, hst, haddr⟩ | ⟨c, h⟩ := finishCommand_answers i (effects i steps s) <;> rw [h]
  · exact .inl ⟨hfatal, hcause, r, rfl, herr, hst, haddr⟩
  · exact .inr ⟨rfl, rfl⟩

end Sys2Proof.Machine
end

section
/-!
SUPPORT. The assembler reads the lines that are written for commands: the digits of a number are read back one after the
other, and the mnemonic ends at the first space (spec/30_encoding.md rule R80).
-/

namespace Sys2Proof.Machine

/-! ### Numbers -/

/-- A number's digits in the base `b`, each written by `write`, are read back. -/
theorem foldl_appendDigit_toDigits {b : Nat} (hb : 1 < b) {write : Char → Char}
    (hw : ∀ d < b, digitValue (write d.digitChar) = some d) (n : Nat) :
    ((Nat.toDigits b n).map write).foldl (appendDigit b) (some 0) = some n := by
  induction n using Nat.strong_induction_on with
  | _ n ih =>
    rcases lt_or_ge n b with hn | hn
    · simp [Nat.toDigits_of_lt_base hn, appendDigit, hw n hn, hn]
    · have hd : n % b < b := Nat.mod_lt n (by omega)
      rw [Nat.toDigits_of_base_le hb hn, List.map_append, List.foldl_append, ih (n / b) (Nat.div_lt_self (by omega) hb)]
      simp [appendDigit, hw _ hd, hd, Nat.div_add_mod']

theorem parseNumber_toDigits {b : Nat} (hb : 1 < b) {write : Char → Char}
    (hw : ∀ d < b, digitValue (write d.digitChar) = some d) (n : Nat) :
    parseNumber b ((Nat.toDigits b n).map write) = some n := by
  rw [parseNumber, if_neg (by simp), foldl_appendDigit_toDigits hb hw]

theorem digitValue_digitChar : ∀ d < 16, digitValue d.digitChar = some d := by decide

theorem digitValue_toUpper_digitChar : ∀ d < 16, digitValue d.digitChar.toUpper = some d := by decide

/-- A number written in decimal does not begin with `0x`. -/
theorem parseOperand_decimal (n : Nat) : parseOperand (Nat.toDigits 10 n) = some n := by
  unfold parseOperand
  split
  · next digits h =>
    have hx : 'x'.isDigit = true := Nat.isDigit_of_mem_toDigits (b := 10) (n := n) (by decide) (by decide) (by simp [h])
    exact absurd hx (by decide)
  · simpa using parseNumber_toDigits (by decide) (write := id) (fun d hd => digitValue_digitChar d (by omega)) n

theorem parseOperand_hexadecimal {n : Nat} {digits : List Char}
    (h : digits = Nat.toDigits 16 n ∨ digits = (Nat.toDigits 16 n).map Char.toUpper) :
    parseOperand ('0' :: 'x' :: digits) = some n := by
  change parseNumber 16 digits = some n
  obtain rfl | rfl := h
  · simpa using parseNumber_toDigits (by decide) (write := id) digitValue_digitChar n
  · exact parseNumber_toDigits (by decide) digitValue_toUpper_digitChar n

/-! ### Lines -/

theorem parseLine_mnemonicOf : ∀ i ∈ plainCommands, parseLine (mnemonicOf i) = some i := by decide

theorem asmLine_of_mem_plainCommands : ∀ i ∈ plainCommands, asmLine i = mnemonicOf i := by decide

/-- The line of SETRES and of SPRD, however its operand is written. -/
theorem parseLine_operand {i : Instr} {n : Nat} (hi : i = .setres n ∨ i = .sprd n) (hn : n < 256) {text : List Char}
    (htext : parseOperand text = some n) : parseLine (mnemonicOf i ++ ' ' :: text) = some i := by
  have harg : parseArg text = some n := by simp [parseArg, htext, fitsArg, hn]
  obtain rfl | rfl := hi <;> simp [parseLine, List.span_eq_takeWhile_dropWhile, mnemonicOf, harg]

theorem assembleLine_of_parseLine {line : List Char} {i : Instr} (h : parseLine line = some i) :
    assembleLine line = some (encode i) := by
  rw [assembleLine, h, Option.map_some]

theorem parseLine_asmLine {i : Instr} (h : i.wellFormed = true) : parseLine (asmLine i) = some i := by
  have hn := (wellFormed_iff i).mp h
  obtain hi | ⟨level, rfl⟩ | ⟨n, rfl⟩ := mem_plainCommands_or i
  · rw [asmLine_of_mem_plainCommands i hi, parseLine_mnemonicOf i hi]
  · exact parseLine_operand (.inl rfl) hn (parseOperand_decimal level)
  · exact parseLine_operand (.inr rfl) hn (parseOperand_decimal n)

/-- Settles O6: the operand is read back in either base, and the line by its mnemonic. -/
theorem assemblingALineGivesTheWord : Obligations.AssemblingALineGivesTheWord := by
  refine ⟨fun i h => ?_, fun n digits hn hdigits i hi => ?_⟩
  · exact ⟨parseLine_asmLine h, assembleLine_of_parseLine (parseLine_asmLine h)⟩
  · have hline := parseLine_operand hi hn (parseOperand_hexadecimal hdigits)
    exact ⟨hline, assembleLine_of_parseLine hline⟩

end Sys2Proof.Machine
end

section
/-!
SUPPORT. The address validator: when `VALIDATE` gives each of its three outcomes (spec/40_address_validator.md rules R100
and R101), the commands that answer from it alone, and what a closed gate leaves of the gated commands (rule R103).
-/

namespace Sys2Proof.Machine

/-! ### The outcomes of `VALIDATE` -/

/-- The CRC-8 is tested first: it alone decides InvalidCRC. -/
theorem validate_invalidCrc_iff (p : Params) (a : Addr) : validate p a = .invalidCrc ↔ p.crc8.apply a.body ≠ a.b7 := by
  unfold validate
  by_cases hcrc : p.crc8.apply a.body = a.b7
  · cases supportedModel p a.b0 <;> simp [hcrc]
  · simp [hcrc]

theorem validate_invalidModel_iff (p : Params) (a : Addr) : validate p a = .invalidModel ↔
    p.crc8.apply a.body = a.b7 ∧ a.b0 ≠ p.modelA ∧ a.b0 ≠ p.modelB ∧ a.b0 ≠ p.modelC := by
  unfold validate
  by_cases hcrc : p.crc8.apply a.body = a.b7
  · simp [hcrc, supportedModel, and_assoc]
  · simp [hcrc]

/-- Settles O25: each clause is the condition of one outcome. -/
theorem validateTestsTheCrcThenTheModel : Obligations.ValidateTestsTheCrcThenTheModel := fun p a =>
  ⟨(validate_invalidCrc_iff p a).mpr, fun hcrc =>
    ⟨fun hmodel => (validate_invalidModel_iff p a).mpr ⟨hcrc, hmodel⟩,
      fun hmodel => (validate_good_iff p a).mpr ⟨hcrc, hmodel⟩⟩⟩

/-- Settles O26: byte 7 is the CRC-8 by construction, and the model is supported. -/
theorem syntheticAddressesAreGood : Obligations.SyntheticAddressesAreGood := fun p _ _ _ _ _ _ _ hmodel =>
  (validate_good_iff p _).mpr ⟨rfl, hmodel⟩

/-- Settles O27: the CRC-8 of the flipped bytes is not that of the Good address, which is byte 7 of both (rule R9). -/
theorem oneFlippedBitIsInvalidCrc : Obligations.OneFlippedBitIsInvalidCrc := by
  intro p a a' i k hp hgood hi hk hbody hb7
  obtain ⟨hcrc, -⟩ := (validate_good_iff p a).mp hgood
  have hflip : p.crc8.apply (flipBit a.body i k) ≠ p.crc8.apply a.body := hp.detects a.body rfl i k hi hk
  rw [validate_invalidCrc_iff, hbody, hb7, ← hcrc]
  exact hflip

/-! ### The commands that answer from the address alone -/

/-- Settles O28: the word has the fields of ISVALID, whose meaning is the response alone. -/
theorem isvalidAnswersTheOutcome : Obligations.IsvalidAnswersTheOutcome :=
  ⟨decode_eq_ok_iff.mpr (by decide), fun _ => rfl⟩

/-- Settles O29: the word has the fields of GETADDR, whose meaning is the response alone. -/
theorem getaddrAnswersTheAddress : Obligations.GetaddrAnswersTheAddress :=
  ⟨decode_eq_ok_iff.mpr (by decide), fun _ => rfl⟩

/-! ### The closed gate -/

/-- A gated command is one gated step and its end, so a closed gate leaves the end alone. -/
theorem exec_closed {i : Instr} {s : State} (h : good s = false)
    (hi : i = .gettc ∨ i = .gettf ∨ i = .getres ∨ (∃ l, i = .setres l) ∨ (∃ n, i = .sprd n) ∨ i = .spwr) :
    exec i s = .next (finishCommand i s) := by
  obtain ⟨m, hprog, hkeep⟩ : ∃ m, program s.params i = [m, .finish] ∧ stepEffect i m s = s := by
    obtain rfl | rfl | rfl | ⟨level, rfl⟩ | ⟨n, rfl⟩ | rfl := hi
    · exact ⟨_, rfl, tempRead_closed h⟩
    · exact ⟨_, rfl, tempRead_closed h⟩
    · exact ⟨_, rfl, spread_closed h _⟩
    · exact ⟨.setresBody level, rfl, by simp [stepEffect, h]⟩
    · exact ⟨_, rfl, spread_closed h n⟩
    · exact ⟨_, rfl, spwrite_closed h⟩
  rw [exec_eq_effects, hprog, effects_cons, hkeep]
  rfl

/-- Settles O22: only the end of the command is left, which writes the response, or `FATAL` and `CAUSE`. -/
theorem closedGateLetsNoEventThrough : Obligations.ClosedGateLetsNoEventThrough := by
  intro i s h hi
  refine ⟨_, exec_closed h hi, ?_⟩
  obtain ⟨_, hend⟩ | ⟨_, hend⟩ := finishCommand_ends i s <;> rw [hend] <;>
    exact ⟨rfl, rfl, rfl, rfl, rfl, rfl, rfl, rfl, rfl, rfl⟩

end Sys2Proof.Machine
end

section
/-!
SUPPORT. The scratchpad state machine: the diagnostic commands SPRD and SPWR behind an open and a closed gate, and the
write and read that keep the written bytes (spec/41_scratchpad.md rules R110 to R118).
-/

namespace Sys2Proof.Machine

/-! ### The words -/

/-- A word is decoded by the two fields it is put together of (rule R71). -/
theorem decode_append_eq_ok_iff {op : BitVec 4} {arg : Byte} {i : Instr} :
    decode (op ++ arg) = .ok i ↔ op = opcodeOf i ∧ arg.toNat = operandOf i := by
  have hop : opField (op ++ arg) = op := BitVec.extractLsb'_append_eq_left
  have harg : argField (op ++ arg) = arg := BitVec.extractLsb'_append_eq_right
  rw [decode_eq_ok_iff, hop, harg]

/-! ### The commands behind an open gate -/

/-- SPRD n is `M_SPREAD(n)` and the response (rule R116). -/
theorem exec_sprd_good {s : State} (h : good s = true) (n : Nat) :
    exec (.sprd n) s = .next (respond false 0 0 0 (afterSpread n s)) := by
  simp only [exec, execSprd]
  rw [status_of_good h, spread_good h]

/-- SPWR is `M_SPWRITE` and the response (rule R117). -/
theorem exec_spwr_good {s : State} (h : good s = true) :
    exec .spwr s = .next (respond false 0 0 0 { s with
      tmr := if s.par then 0 else s.tmr
      bus := s.bus.skip 3 0 0
      trace := s.trace ++ spwriteTrace s.params s.addr s.th s.tl s.cfg s.par }) := by
  simp only [exec, execSpwr]
  rw [status_of_good h, spwrite_good h]

/-- Settles O30: behind the open gate the command is the closed form of `M_SPREAD(n)` and its response, behind the closed
gate the response alone. -/
theorem sprdReadsTheFirstBytes : Obligations.SprdReadsTheFirstBytes := by
  refine ⟨fun n => decode_append_eq_ok_iff.mpr ⟨rfl, rfl⟩, fun n s => ?_⟩
  split
  case isTrue h => exact exec_sprd_good h n
  case isFalse h => exact exec_closed (eq_false_of_ne_true h) (by simp)

/-- Settles O31: behind the open gate the command is the closed form of `M_SPWRITE` and its response, behind the closed
gate the response alone. -/
theorem spwrSendsTheAlarmAndConfigurationBytes : Obligations.SpwrSendsTheAlarmAndConfigurationBytes := by
  refine ⟨decode_eq_ok_iff.mpr (by decide), fun s => ?_⟩
  split
  case isTrue h => rw [exec_spwr_good h, spwriteTrace, ← List.append_assoc, ← List.append_assoc]; rfl
  case isFalse h => exact exec_closed (eq_false_of_ne_true h) (by simp)

/-! ### A write and a read -/

/-- A read of 3 bytes or more refreshes the high-alarm register. -/
theorem th_afterSpread {n : Nat} (h : 3 ≤ n) (s : State) : (afterSpread n s).th = s.bus.byte 2 := if_pos h

/-- A read of 4 bytes or more refreshes the low-alarm register. -/
theorem tl_afterSpread {n : Nat} (h : 4 ≤ n) (s : State) : (afterSpread n s).tl = s.bus.byte 3 := if_pos h

/-- Settles O32: the write leaves the address Good, so the read behind its gate refreshes all three registers, with the
bytes the transport answers. -/
theorem writeThenReadKeepsTheWrittenBytes : Obligations.WriteThenReadKeepsTheWrittenBytes := by
  intro n s hn h
  refine ⟨_, exec_spwr_good h, fun hth htl hcfg => ⟨_, exec_sprd_good ?stillGood n, ?_, ?_, ?_⟩⟩
  case stillGood => exact (good_congr rfl rfl).trans h
  · exact (th_afterSpread (by omega) _).trans hth
  · exact (tl_afterSpread (by omega) _).trans htl
  · exact (cfg_afterSpread hn _).trans hcfg

end Sys2Proof.Machine
end

section
/-!
SUPPORT. The power mode: ISPARA answers the cached parasite flag (spec/42_power_mode.md rule R133).
-/

namespace Sys2Proof.Machine

/-- The flag as a response value: 1 for parasite power and 0 for external power. -/
theorem ofNat_toNat_eq_ite (par : Bool) : BitVec.ofNat 24 par.toNat = if par then 1 else 0 := by
  cases par <;> rfl

/-- Settles O33: the word has the fields of ISPARA, whose meaning is the response alone, with the flag as its value. -/
theorem isparaAnswersTheCachedFlag : Obligations.IsparaAnswersTheCachedFlag := by
  refine ⟨decode_eq_ok_iff.mpr (by decide), fun s => ?_⟩
  rw [← ofNat_toNat_eq_ite]
  rfl

end Sys2Proof.Machine
end

section
/-!
SUPPORT. The conversion controller: the delays of levels and of configuration bytes, the broadcast-mode commands, and
`CONV` after each command that writes it (spec/43_conversion.md rules R140 to R151).
-/

namespace Sys2Proof.Machine

/-! ### The delays -/

theorem delayOfLevel_of_outside {r : Int} (h : r < 9 ∨ 12 < r) : delayOfLevel r = 750 := by
  unfold delayOfLevel
  split
  case h_5 => rfl
  all_goals omega

/-- Settles O34: the table has four rows, and the order of its delays is that of its levels. -/
theorem delayTableIsExactAndMonotonic : Obligations.DelayTableIsExactAndMonotonic := by
  have hmono : ∀ r₁ ∈ Finset.Icc (9 : Int) 12, ∀ r₂ ∈ Finset.Icc (9 : Int) 12,
      r₁ ≤ r₂ → delayOfLevel r₁ ≤ delayOfLevel r₂ := by decide
  refine ⟨rfl, rfl, rfl, rfl, fun _ => delayOfLevel_of_outside, fun r₁ r₂ h9 hle h12 => ?_⟩
  exact hmono r₁ (Finset.mem_Icc.mpr ⟨h9, hle.trans h12⟩) r₂ (Finset.mem_Icc.mpr ⟨h9.trans hle, h12⟩) hle

theorem delayOfCfg_of_level {p : Params} {c : Byte} {level : Nat} (h : levelOfCfg p c = some level) :
    delayOfCfg p c = delayOfLevel level := by
  simp only [delayOfCfg, h]

theorem delayOfCfg_of_no_level {p : Params} {c : Byte} (h : levelOfCfg p c = none) : delayOfCfg p c = 750 := by
  simp only [delayOfCfg, h]

/-- Settles O35: a pattern has the delay of its level, and a byte that is none of the first three is the fourth pattern
or has no level. -/
theorem delayOfAByteIsThatOfItsPattern : Obligations.DelayOfAByteIsThatOfItsPattern := by
  intro p hp
  obtain ⟨h9, h10, h11, h12, hnone, -⟩ := levelsAndPatternsMapBothWays p hp
  refine ⟨delayOfCfg_of_level h9, delayOfCfg_of_level h10, delayOfCfg_of_level h11, delayOfCfg_of_level h12,
    fun c hc9 hc10 hc11 => ?_⟩
  by_cases hc12 : c = p.cfg12
  · exact hc12 ▸ delayOfCfg_of_level h12
  · exact delayOfCfg_of_no_level (hnone c (by simp [hc9, hc10, hc11, hc12]))

/-! ### The broadcast-mode commands -/

/-- Settles O37: the word has the fields of REQBC, whose three bus events follow one another in the trace. -/
theorem reqbcStartsAConversionOnEveryDevice : Obligations.ReqbcStartsAConversionOnEveryDevice := by
  refine ⟨decode_eq_ok_iff.mpr (by decide), fun s => ?_⟩
  simp only [exec, execReqbc, busReset_eq, busSkip_eq, busWrite_eq, List.append_assoc]
  rfl

/-- Settles O38: the word has the fields of WAITCV, whose meaning is the delay, the write of `CONV` and the response. -/
theorem waitcvWaitsTheDelayOfTheCachedByte : Obligations.WaitcvWaitsTheDelayOfTheCachedByte :=
  ⟨decode_eq_ok_iff.mpr (by decide), fun _ => rfl⟩

/-! ### `CONV` after a command -/

/-- The end of a temperature read, its Fatal included, leaves `CONV` alone. -/
@[simp] theorem answerTemp_conv (unit : Int → Int) (s : State) : (answerTemp unit s).conv = s.conv := by
  obtain ⟨_, h⟩ | ⟨_, h⟩ := answerTemp_ends unit s <;> simp [h]

/-- Behind the open gate a temperature read leaves `CONV` = 0, in both modes (rule R147). -/
theorem exec_temp_conv {i : Instr} (hi : i = .gettc ∨ i = .gettf) (s : State) :
    ∃ t, exec i s = .next t ∧ t.conv = if good s = true then .idle else s.conv := by
  have hread : (if good s = true then afterTempRead s else s).conv = if good s = true then .idle else s.conv := by
    split <;> rfl
  obtain rfl | rfl := hi
  · exact ⟨_, exec_gettc s, (answerTemp_conv _ _).trans hread⟩
  · exact ⟨_, exec_gettf s, (answerTemp_conv _ _).trans hread⟩

/-- RESET sets `CONV` with the other defaults, and the steps that follow do not write it (rule R192). -/
theorem resetBody_conv (s : State) : (resetBody s).conv = .idle := by
  have hsteps : ∀ m ∈ [.enumReset, .enumNext 0, .pwrDetect, .spread s.params.nFull, .finish],
      ¬Micro.Writes .reset m .conv := by simp [Micro.Writes, Register.InImage]
  obtain ⟨hkept, -⟩ :=
    effects_writes (w := (· ≠ .conv)) (fun m hm _ hw hr => hsteps m hm (hr ▸ hw)) (loadDefaults s)
  exact (hkept .conv).resolve_right (by simp)

/-- Settles O39: REQBC and WAITCV end in the states of their statements, and BEGIN is RESET after the write of
`AUTO`. -/
theorem conversionStateAfterEachCommand : Obligations.ConversionStateAfterEachCommand := by
  obtain ⟨-, hreqbc⟩ := reqbcStartsAConversionOnEveryDevice
  obtain ⟨-, hwaitcv⟩ := waitcvWaitsTheDelayOfTheCachedByte
  refine ⟨fun s => ⟨⟨_, hreqbc s, rfl⟩, ⟨_, hwaitcv s, rfl⟩, fun _ hi => exec_temp_conv hi s⟩, ?session,
    fun _ _ => rfl⟩
  rintro i s (rfl | rfl)
  · exact ⟨_, rfl, resetBody_conv (setAuto true s)⟩
  · exact ⟨_, rfl, resetBody_conv s⟩

end Sys2Proof.Machine
end

section
/-!
SUPPORT. The fixed-point temperature scaler: `DECODE` by the level of the configuration byte, the values it gives as
numbers and as bit vectors, the Fahrenheit transform, and the commands GETTC and GETTF
(spec/44_temperature.md rules R160 to R170).
-/

namespace Sys2Proof.Machine

/-! ### The arithmetic shift -/

theorem asr_eq_ediv (v : Int) (k : Nat) : asr v k = v / 2 ^ k :=
  Int.fdiv_eq_ediv_of_nonneg v (by positivity)

theorem asr_zero (v : Int) : asr v 0 = v := by simp [asr_eq_ediv]

/-- `>>` is floor division over the rationals (rule R167). -/
theorem asr_eq_floor (v : Int) (k : Nat) : asr v k = ⌊(v : ℚ) / 2 ^ k⌋ := by
  rw [asr_eq_ediv]
  exact_mod_cast (Rat.floor_intCast_div_natCast v (2 ^ k)).symm

/-- Shifted right and back left, a reading keeps all but its `k` low bits. -/
theorem toInt_and_allOnes_shiftLeft (raw : BitVec 16) {k : Nat} (hk : k ≤ 3) :
    (raw &&& BitVec.allOnes 16 <<< k).toInt = 2 ^ k * asr raw.toInt k := by
  have hnat : (raw &&& BitVec.allOnes 16 <<< k).toNat = raw.toNat / 2 ^ k * 2 ^ k := by
    have hle := Nat.div_mul_le_self raw.toNat (2 ^ k)
    rw [← BitVec.shiftLeft_ushiftRight, BitVec.toNat_shiftLeft, BitVec.toNat_ushiftRight, Nat.shiftLeft_eq,
      Nat.shiftRight_eq_div_pow, Nat.mod_eq_of_lt (by omega)]
  rw [asr_eq_ediv, BitVec.toInt_eq_toNat_cond, BitVec.toInt_eq_toNat_cond, hnat]
  interval_cases k <;> omega

/-- The shift of a sign-extended reading by 3 multiplies it by 8 without wrapping in 19 bits. -/
theorem toInt_signExtend_shiftLeft (raw : BitVec 16) : ((raw.signExtend 19) <<< 3).toInt = 8 * raw.toInt := by
  have hlow := raw.le_toInt
  have hhigh := raw.toInt_lt
  have hmul : (raw.signExtend 19) <<< 3 = BitVec.ofInt 19 (8 * raw.toInt) := by
    rw [BitVec.shiftLeft_eq_mul_twoPow, BitVec.mul_comm, BitVec.ofInt_mul]
    rfl
  rw [hmul, BitVec.toInt_ofInt_eq_self (by decide) (by omega) (by omega)]

/-! ### `DECODE` -/

/-- A byte has no level, or one that is at most three below 12. -/
theorem levelOfCfg_cases (p : Params) (c : Byte) :
    levelOfCfg p c = none ∨ ∃ k ≤ 3, levelOfCfg p c = some (12 - k) := by
  unfold levelOfCfg
  split_ifs
  · exact .inr ⟨3, by decide, rfl⟩
  · exact .inr ⟨2, by decide, rfl⟩
  · exact .inr ⟨1, by decide, rfl⟩
  · exact .inr ⟨0, by decide, rfl⟩
  · exact .inl rfl

/-- Families A and C are not family B (rule R8). -/
theorem ne_modelB {p : Params} (hp : p.WF) {model : Byte} (h : model = p.modelA ∨ model = p.modelC) :
    model ≠ p.modelB := by
  have hd := hp.models
  simp only [List.nodup_cons, List.mem_cons, List.not_mem_nil, or_false, not_or] at hd
  obtain ⟨⟨hAB, -⟩, hBC, -⟩ := hd
  obtain rfl | rfl := h
  · exact hAB
  · exact Ne.symm hBC

theorem decodeTemp_modelB (p : Params) (cfg : Byte) (raw : Int) : decodeTemp p p.modelB cfg raw = .value (8 * raw) :=
  if_pos rfl

theorem decodeTemp_of_unsupported {p : Params} {model : Byte} (h : model ∉ [p.modelA, p.modelB, p.modelC])
    (cfg : Byte) (raw : Int) : decodeTemp p model cfg raw = .fatal .modelNoDecode := by
  simp only [List.mem_cons, List.not_mem_nil, or_false, not_or] at h
  obtain ⟨hA, hB, hC⟩ := h
  simp [decodeTemp, hA, hB, hC]

section
variable {p : Params} {model cfg : Byte}

/-- In families A and C each level below 12 clears one more low bit of the reading (rule R162). -/
theorem decodeTemp_of_level (hB : model ≠ p.modelB) (hm : model = p.modelA ∨ model = p.modelC) {k : Nat} (hk : k ≤ 3)
    (hlevel : levelOfCfg p cfg = some (12 - k)) (raw : Int) :
    decodeTemp p model cfg raw = .value (2 ^ k * asr raw k) := by
  rw [decodeTemp, if_neg hB, if_pos hm, hlevel]
  interval_cases k
  · simp [asr_zero]
  all_goals rfl

theorem decodeTemp_of_no_level (hB : model ≠ p.modelB) (hm : model = p.modelA ∨ model = p.modelC)
    (hlevel : levelOfCfg p cfg = none) (raw : Int) : decodeTemp p model cfg raw = .fatal .cfgUnrecognized := by
  rw [decodeTemp, if_neg hB, if_pos hm, hlevel]

/-- A supported model and, outside family B, a byte that has a level: `DECODE` gives a value. -/
theorem exists_decodeTemp_eq_value (hm : model = p.modelA ∨ model = p.modelB ∨ model = p.modelC)
    (hlevel : model = p.modelB ∨ levelOfCfg p cfg ≠ none) (raw : Int) : ∃ c, decodeTemp p model cfg raw = .value c := by
  by_cases hB : model = p.modelB
  · exact ⟨_, hB ▸ decodeTemp_modelB p cfg raw⟩
  · obtain ⟨k, hk, hl⟩ := (levelOfCfg_cases p cfg).resolve_left (hlevel.resolve_left hB)
    exact ⟨_, decodeTemp_of_level hB (by tauto) hk hl raw⟩

/-- A value of `DECODE` is the reading shifted left by 3, or the reading with up to three low bits cleared. -/
theorem decodeTemp_eq_value_cases {raw c : Int} (h : decodeTemp p model cfg raw = .value c) :
    (model = p.modelB ∧ c = 8 * raw) ∨ (model ≠ p.modelB ∧ ∃ k ≤ 3, c = 2 ^ k * asr raw k) := by
  by_cases hB : model = p.modelB
  · rw [hB, decodeTemp_modelB] at h
    cases h
    exact .inl ⟨hB, rfl⟩
  by_cases hm : model = p.modelA ∨ model = p.modelC
  · obtain hnone | ⟨k, hk, hl⟩ := levelOfCfg_cases p cfg
    · rw [decodeTemp_of_no_level hB hm hnone] at h
      cases h
    · rw [decodeTemp_of_level hB hm hk hl] at h
      cases h
      exact .inr ⟨hB, k, hk, rfl⟩
  · rw [decodeTemp_of_unsupported (by simp; tauto)] at h
    cases h

end

/-- The four patterns in families A and C, and every other byte. -/
theorem decodeTemp_patterns {p : Params} (hp : p.WF) {model : Byte} (hm : model = p.modelA ∨ model = p.modelC)
    (raw : Int) :
    decodeTemp p model p.cfg12 raw = .value raw ∧
    decodeTemp p model p.cfg11 raw = .value (2 ^ 1 * asr raw 1) ∧
    decodeTemp p model p.cfg10 raw = .value (2 ^ 2 * asr raw 2) ∧
    decodeTemp p model p.cfg9 raw = .value (2 ^ 3 * asr raw 3) ∧
    ∀ cfg ∉ [p.cfg9, p.cfg10, p.cfg11, p.cfg12], decodeTemp p model cfg raw = .fatal .cfgUnrecognized := by
  have hB := ne_modelB hp hm
  obtain ⟨h9, h10, h11, h12, hnone, -⟩ := levelsAndPatternsMapBothWays p hp
  refine ⟨?_, decodeTemp_of_level hB hm (by decide) h11 raw, decodeTemp_of_level hB hm (by decide) h10 raw,
    decodeTemp_of_level hB hm (by decide) h9 raw, fun cfg hcfg => decodeTemp_of_no_level hB hm (hnone cfg hcfg) raw⟩
  simpa [asr_zero] using decodeTemp_of_level hB hm (k := 0) (by decide) h12 raw

/-- Settles O40: the rows of `DECODE`, each count divided by 16. -/
theorem decodeIsTheSourcesTable : Obligations.DecodeIsTheSourcesTable := by
  intro p raw hp
  refine ⟨fun cfg => ⟨_, decodeTemp_modelB p cfg raw, ?_⟩, fun model hm => ?_,
    fun model cfg hm => decodeTemp_of_unsupported hm cfg raw⟩
  · push_cast; ring
  · obtain ⟨h12, h11, h10, h9, hother⟩ := decodeTemp_patterns hp hm raw
    refine ⟨⟨_, h12, by ring⟩, ⟨_, h11, ?_⟩, ⟨_, h10, ?_⟩, ⟨_, h9, ?_⟩, hother⟩ <;>
    · rw [asr_eq_floor]
      norm_num
      ring

/-- Settles O41: the mask of a level is all ones shifted left by the number of bits it clears. -/
theorem decodeClearsTheLowBits : Obligations.DecodeClearsTheLowBits := by
  intro p model raw hp hm
  obtain ⟨h12, h11, h10, h9, -⟩ := decodeTemp_patterns hp hm raw.toInt
  rw [← toInt_and_allOnes_shiftLeft raw (by decide)] at h11 h10 h9
  refine ⟨h12, h11, h10, h9, fun cfg => ?_⟩
  rw [decodeTemp_modelB, toInt_signExtend_shiftLeft]

/-! ### The ranges of the values -/

/-- The range of a decoded count, by family (rule R169). -/
theorem decodeTemp_value_range {p : Params} {model cfg msb lsb : Byte} {c : Int}
    (h : decodeTemp p model cfg (rawReading msb lsb) = .value c) :
    (model ≠ p.modelB → -32768 ≤ c ∧ c ≤ 32767) ∧ -262144 ≤ c ∧ c ≤ 262136 := by
  have hlow : -32768 ≤ rawReading msb lsb := BitVec.le_toInt _
  have hhigh : rawReading msb lsb < 32768 := BitVec.toInt_lt
  obtain ⟨hB, rfl⟩ | ⟨-, k, hk, rfl⟩ := decodeTemp_eq_value_cases h
  · exact ⟨fun hne => absurd hB hne, by omega, by omega⟩
  · rw [asr_eq_ediv]
    interval_cases k <;> omega

/-- The 24-bit field keeps a count above its least value, which is the reference sentinel. -/
theorem ofInt_exact_and_ne_sentinel {c : Int} (hlow : -2 ^ 23 < c) (hhigh : c < 2 ^ 23) :
    (BitVec.ofInt 24 c).toInt = c ∧ BitVec.ofInt 24 c ≠ Params.reference.sentinel := by
  have hval : (BitVec.ofInt 24 c).toInt = c := BitVec.toInt_ofInt_eq_self (by decide) hlow.le hhigh
  refine ⟨hval, fun heq => ?_⟩
  rw [heq] at hval
  exact hlow.ne hval

/-- Settles O42: both values lie well inside the 24-bit range. -/
theorem decodedValuesFitTheResponse : Obligations.DecodedValuesFitTheResponse := by
  intro p model cfg msb lsb c h
  obtain ⟨hfamily, hlow, hhigh⟩ := decodeTemp_value_range h
  have hFlow : -2356736 ≤ toFahrenheit c := by unfold toFahrenheit; omega
  have hFhigh : toFahrenheit c ≤ 2361784 := by unfold toFahrenheit; omega
  obtain ⟨hval, hne⟩ := ofInt_exact_and_ne_sentinel (c := c) (by omega) (by omega)
  obtain ⟨hFval, hFne⟩ := ofInt_exact_and_ne_sentinel (c := toFahrenheit c) (by omega) (by omega)
  exact ⟨hfamily, hlow, hhigh, hFlow, hFhigh, hval, hFval, hne, hFne⟩

/-! ### The formulas at the source's examples -/

/-- Settles O43: one count of Fahrenheit is 1/80 degree, and 1/16 × 1.8 is 9/80. -/
theorem fahrenheitIsTheAffineTransform : Obligations.FahrenheitIsTheAffineTransform := by
  refine ⟨fun _ => rfl, fun c16 => ?_, rfl, rfl⟩
  rw [toFahrenheit]
  push_cast
  ring

/-- Settles O44: the rows of 12 bits and of family B at the reading 400. -/
theorem sourceDecodeExamplesHold : Obligations.SourceDecodeExamplesHold := by
  have hraw : rawReading 0x01 0x90 = 400 := by decide
  rw [Obligations.SourceDecodeExamplesHold, hraw]
  refine ⟨rfl, fun p hp => ⟨?_, fun cfg => ⟨_, decodeTemp_modelB p cfg 400, rfl, by norm_num⟩⟩⟩
  obtain ⟨h12, -⟩ := decodeTemp_patterns hp (.inl rfl) 400
  exact ⟨_, h12, rfl, by norm_num⟩

/-! ### GETTC and GETTF -/

theorem answerTemp_of_value {s : State} {c : Int} (h : good s = true) (hd : decodeNow s = .value c)
    (unit : Int → Int) : answerTemp unit s = respond false 0 (BitVec.ofInt 24 (unit c)) 0 s := by
  rw [answerTemp, if_pos h, hd]

theorem answerTemp_of_fatal {s : State} {c : Cause} (h : good s = true) (hd : decodeNow s = .fatal c)
    (unit : Int → Int) : answerTemp unit s = raiseFatal c s := by
  rw [answerTemp, if_pos h, hd]

/-- The sentinel is not passed through the unit (rule R166). -/
theorem answerTemp_closed {s : State} (h : good s = false) (unit : Int → Int) :
    answerTemp unit s = respond false (status s) s.params.sentinel 0 s := by
  simp [answerTemp, h]

/-- A temperature read leaves the gate open. -/
theorem good_afterTempRead {s : State} (h : good s = true) : good (afterTempRead s) = true :=
  (good_congr rfl rfl).trans h

/-- What GETTC and GETTF both do: the read, then its end in the command's unit. -/
theorem answerTemp_afterTempRead (unit : Int → Int) (s : State) :
    answerTemp unit (if good s = true then afterTempRead s else s) =
      if good s = true then
        match decodeTemp s.params s.addr.b0 s.cfg (s.bus.byte 1 ++ s.bus.byte 0).toInt with
        | .value c => { afterTempRead s with rsp := some ⟨false, 0, BitVec.ofInt 24 (unit c), 0⟩ }
        | .fatal c => { afterTempRead s with fatal := true, cause := c, rsp := none }
      else { s with rsp := some ⟨false, (validate s.params s.addr).code, s.params.sentinel, 0⟩ } := by
  split
  case isTrue h =>
    split
    case h_1 c hd => exact answerTemp_of_value (good_afterTempRead h) hd unit
    case h_2 c hd => exact answerTemp_of_fatal (good_afterTempRead h) hd unit
  case isFalse h => exact answerTemp_closed (eq_false_of_ne_true h) unit

/-- Settles O45: GETTC answers the decoded count as it is. -/
theorem gettcAnswersTheDecodedReading : Obligations.GettcAnswersTheDecodedReading :=
  ⟨decode_eq_ok_iff.mpr (by decide), fun s =>
    (exec_gettc s).trans (congrArg Host.Outcome.next (answerTemp_afterTempRead id s))⟩

/-- Settles O46: GETTF answers the Fahrenheit transform of the same count. -/
theorem gettfAnswersTheTransformedReading : Obligations.GettfAnswersTheTransformedReading :=
  ⟨decode_eq_ok_iff.mpr (by decide), fun s =>
    (exec_gettf s).trans (congrArg Host.Outcome.next (answerTemp_afterTempRead toFahrenheit s))⟩

/-- A Good address has a supported model, and the read leaves the cached configuration byte as it was: it ends with a
value (rule R168). -/
theorem answerTemp_of_decodable {s : State} (h : Decodable s) (unit : Int → Int) :
    ∃ r, answerTemp unit (if good s = true then afterTempRead s else s) = { afterTempRead s with rsp := some r } ∧
      r.Trusted := by
  obtain ⟨hgood, hlevel⟩ := h
  obtain ⟨-, hmodel⟩ := (validate_good_iff _ _).mp (validate_of_good hgood)
  obtain ⟨c, hc⟩ : ∃ c, decodeNow (afterTempRead s) = .value c := exists_decodeTemp_eq_value hmodel hlevel _
  rw [if_pos hgood]
  exact ⟨_, answerTemp_of_value (good_afterTempRead hgood) hc unit, rfl, rfl⟩

/-- Settles O47: both commands end the read in a decodable core, which writes the response alone. -/
theorem decodableCoreAnswersATemperature : Obligations.DecodableCoreAnswersATemperature := by
  rintro i s hi - hdec
  obtain rfl | rfl := hi
  · obtain ⟨r, hend, hr⟩ := answerTemp_of_decodable hdec id
    exact ⟨_, r, (exec_gettc s).trans (congrArg _ hend), rfl, rfl, hr⟩
  · obtain ⟨r, hend, hr⟩ := answerTemp_of_decodable hdec toFahrenheit
    exact ⟨_, r, (exec_gettf s).trans (congrArg _ hend), rfl, rfl, hr⟩

end Sys2Proof.Machine
end

section
/-!
SUPPORT. The resolution manager: the level of a pattern SETRES writes, the two ends of GETRES and the end of SETRES, both
commands in every state, and the level that survives a write and a read (spec/45_resolution.md rules R181 to R185).
-/

namespace Sys2Proof.Machine

/-! ### Levels and patterns -/

/-- The pattern written for an integer has the level that integer is normalized to (rules R31 and R185). -/
theorem levelOfCfg_cfgOfLevel_eq_some {p : Params} (hp : p.WF) (level : Nat) :
    levelOfCfg p (cfgOfLevel p level) = some (normalLevel level) := by
  obtain ⟨h9, h10, h11, h12, -, -, -, -, -, houtside⟩ := levelsAndPatternsMapBothWays p hp
  by_cases hlevel : 9 ≤ level ∧ level ≤ 12
  · obtain ⟨hlow, hhigh⟩ := hlevel
    interval_cases level
    · exact h9
    · exact h10
    · exact h11
    · exact h12
  · rw [houtside level (by omega), normalLevel, if_neg hlevel, h12]

/-! ### The ends of the two commands -/

theorem answerLevel_of_level {s : State} {level : Nat} (h : levelOfCfg s.params s.cfg = some level) :
    answerLevel s = respond false (status s) (BitVec.ofNat 24 level) 0 s := by
  rw [answerLevel, h]

theorem answerLevel_of_no_level {s : State} (h : levelOfCfg s.params s.cfg = none) :
    answerLevel s = raiseFatal .cfgUnrecognized s := by
  rw [answerLevel, h]

theorem answerWritten_of_level {s : State} {level : Nat} (hgood : good s = true)
    (h : levelOfCfg s.params s.cfg = some level) :
    answerWritten s = respond false 0 (BitVec.ofNat 24 level) 0 s := by
  rw [answerWritten, if_pos hgood, h, Option.getD_some]

theorem answerWritten_closed {s : State} (h : good s = false) : answerWritten s = respond false (status s) 0 0 s := by
  simp [answerWritten, h]

/-! ### GETRES -/

/-- A full read leaves the gate open, so its response has `rsp_st` = 0. -/
theorem status_afterSpread {s : State} (h : good s = true) (n : Nat) : status (afterSpread n s) = 0 :=
  (status_congr rfl rfl).trans (status_of_good h)

/-- GETRES behind the open gate, when the byte read at position 4 has a level. -/
theorem exec_getres_of_level {s : State} {level : Nat} (hp : s.params.WF) (h : good s = true)
    (hlevel : levelOfCfg s.params (s.bus.byte 4) = some level) :
    exec .getres s = .next (respond false 0 (BitVec.ofNat 24 level) 0 (afterSpread s.params.nFull s)) := by
  have hcfg := cfg_afterSpread hp.fullRead.left s
  rw [exec_getres, if_pos h, answerLevel_of_level (hcfg ▸ hlevel), status_afterSpread h]

/-- GETRES behind the open gate, when the byte read at position 4 has no level. -/
theorem exec_getres_of_no_level {s : State} (hp : s.params.WF) (h : good s = true)
    (hlevel : levelOfCfg s.params (s.bus.byte 4) = none) :
    exec .getres s = .next (raiseFatal .cfgUnrecognized (afterSpread s.params.nFull s)) := by
  have hcfg := cfg_afterSpread hp.fullRead.left s
  rw [exec_getres, if_pos h, answerLevel_of_no_level (hcfg ▸ hlevel)]

/-- Settles O48: behind the open gate the byte read decides between level and Fatal, behind the closed gate the cached
byte. -/
theorem getresAnswersTheLevelOrGoesFatal : Obligations.GetresAnswersTheLevelOrGoesFatal := by
  refine ⟨decode_eq_ok_iff.mpr (by decide), fun s hp => ?_⟩
  split
  case isTrue h =>
    split
    case h_1 level hlevel => exact exec_getres_of_level hp h hlevel
    case h_2 hlevel => exact exec_getres_of_no_level hp h hlevel
  case isFalse h =>
    rw [exec_closed (eq_false_of_ne_true h) (by simp)]
    split
    case h_1 level hlevel => exact congrArg _ (answerLevel_of_level hlevel)
    case h_2 hlevel => exact congrArg _ (answerLevel_of_no_level hlevel)

/-! ### SETRES -/

/-- A read of 5 bytes or more refreshes the whole image. -/
theorem imageRead_of_le {n : Nat} (h : 5 ≤ n) (s : State) :
    imageRead n s = { s with
      tLsb := s.bus.byte 0
      tMsb := s.bus.byte 1
      th := s.bus.byte 2
      tl := s.bus.byte 3
      cfg := s.bus.byte 4 } := by
  rw [imageRead, if_pos (by omega), if_pos (by omega), if_pos (by omega), if_pos (by omega), if_pos (by omega)]

/-- SETRES behind the open gate is the read, the write, and the level written as the answer. -/
theorem exec_setres_good {s : State} (hp : s.params.WF) (h : good s = true) (level : Nat) :
    exec (.setres level) s = .next (respond false 0 (BitVec.ofNat 24 (normalLevel level)) 0 (afterSetres level s)) := by
  have hgood : good (afterSetres level s) = true := (good_congr rfl rfl).trans h
  rw [exec_setres, if_pos h, answerWritten_of_level hgood (levelOfCfg_cfgOfLevel_eq_some hp level)]

/-- Settles O49: the full read refreshes the alarm bytes, which the write then sends with the new pattern. -/
theorem setresWritesTheLevelWithTheAlarmsRead : Obligations.SetresWritesTheLevelWithTheAlarmsRead := by
  refine ⟨fun level => decode_append_eq_ok_iff.mpr ⟨rfl, rfl⟩, fun level s hp => ?_⟩
  obtain ⟨hfive, height⟩ := hp.fullRead
  split
  case isTrue h =>
    rw [exec_setres_good hp h, afterSetres, afterSpread, imageRead_of_le hfive, min_eq_left height,
      cfgOfLevel_normalLevel]
    rfl
  case isFalse h =>
    rw [exec_closed (eq_false_of_ne_true h) (by simp)]
    exact congrArg _ (answerWritten_closed (eq_false_of_ne_true h))

/-! ### A SETRES and a GETRES -/

/-- Settles O51: SETRES leaves the address Good and the pattern of the level as `CFG`, and GETRES answers the level of
the same byte when the device returns it. -/
theorem getresAfterSetresAnswersTheLevel : Obligations.GetresAfterSetresAnswersTheLevel := by
  intro level s hp h
  refine ⟨_, exec_setres_good hp h level, rfl, fun hbyte => ⟨_, exec_getres_of_level hp ?stillGood ?sameLevel, rfl⟩⟩
  case stillGood => exact (good_congr rfl rfl).trans h
  case sameLevel => exact hbyte ▸ levelOfCfg_cfgOfLevel_eq_some hp level

end Sys2Proof.Machine
end

section
/-!
SUPPORT. The session commands: BEGIN and RESET as one body, that body when the wanted device is found and when it is
not, and that it does not look at what an earlier RESET has left (spec/46_session.md rules R190 to R195).
-/

namespace Sys2Proof.Machine

/-- BEGIN and RESET are the body of RESET, with the mode flag written first (rules R190 and R192). -/
theorem exec_session {i : Instr} (hi : IsSession i) (s : State) :
    exec i s = .next (resetBody { s with auto := autoAfter i s.auto }) := by
  obtain rfl | rfl := hi <;> rfl

/-! ### The gate after the enumeration -/

theorem good_iff (s : State) : good s = true ↔ validate s.params s.addr = .good := beq_iff_eq

theorem good_eq_false_iff (s : State) : good s = false ↔ validate s.params s.addr ≠ .good := beq_eq_false_iff_ne

/-- Behind the open gate the power detection and a full read refresh `PAR` and the whole image (rules R110 and R130). -/
theorem spread_pwrDetect_good {s : State} {n : Nat} (h : good s = true) (hfive : 5 ≤ n) (height : n ≤ 8) :
    spread n (pwrDetect s) = { s with
      tLsb := s.bus.byte 0
      tMsb := s.bus.byte 1
      th := s.bus.byte 2
      tl := s.bus.byte 3
      cfg := s.bus.byte 4
      par := !s.bus.bit
      bus := s.bus.skip 3 n 1
      trace := s.trace ++ powerTrace s.params s.addr s.bus.bit ++ spreadTrace s.params s.addr s.bus n } := by
  have hgood : good (pwrDetect s) = true := by
    rw [pwrDetect_good h]
    exact (good_congr rfl rfl).trans h
  rw [spread_good hgood, pwrDetect_good h, afterSpread, imageRead_of_le hfive, min_eq_left height]
  simp only [Bus.byte_skip, Bus.skip_skip, Nat.zero_add, spreadTrace_congr (b' := s.bus.skip 1 0 1) (b := s.bus) rfl]

/-- RESET when a Good address has been found: the power detection, the full read and the answer. -/
theorem resetBody_good {s d : State} (hd : discover (loadDefaults s) = d) (hp : s.params.WF) (h : good d = true) :
    resetBody s = { d with
      tLsb := d.bus.byte 0
      tMsb := d.bus.byte 1
      th := d.bus.byte 2
      tl := d.bus.byte 3
      cfg := d.bus.byte 4
      par := !d.bus.bit
      bus := d.bus.skip 3 s.params.nFull 1
      trace := d.trace ++ powerTrace d.params d.addr d.bus.bit ++ spreadTrace d.params d.addr d.bus s.params.nFull
      rsp := some ⟨false, 0, 0, 0⟩ } := by
  obtain ⟨hfive, height⟩ := hp.fullRead
  have hread := spread_pwrDetect_good h hfive height
  have hstatus : status (spread s.params.nFull (pwrDetect d)) = 0 := by
    rw [hread]
    exact (status_congr rfl rfl).trans (status_of_good h)
  rw [resetBody, hd, hstatus, hread]
  rfl

/-- RESET when the enumeration leaves an address that is not Good: the answer alone. -/
theorem resetBody_closed {s d : State} (hd : discover (loadDefaults s) = d) (h : good d = false) :
    resetBody s = respond false (status d) 0 0 d := by
  rw [resetBody, hd, pwrDetect_closed h, spread_closed h]

/-! ### The device is found, or is not -/

/-- Settles O52: the candidate found opens the gate, and the power detection and the full read follow. -/
theorem sessionEstablishedWhenTheDeviceIsFound : Obligations.SessionEstablishedWhenTheDeviceIsFound := by
  refine ⟨decode_eq_ok_iff.mpr (by decide), decode_eq_ok_iff.mpr (by decide), ?_⟩
  intro i s before after a hi hp hsession ha hcount
  have hfound := discover_found (s := loadDefaults { s with auto := autoAfter i s.auto }) hsession ha hcount
  rw [exec_session hi, resetBody_good hfound hp ((good_iff _).mpr ha)]
  rfl

/-- Settles O53: the defaults with the zero address keep the gate closed, so nothing follows the enumeration. -/
theorem sessionWithoutADeviceLeavesTheDefaults : Obligations.SessionWithoutADeviceLeavesTheDefaults := by
  intro i s hi hp hcount
  have hzero := validate_zero hp
  have hnone := discover_none (s := loadDefaults { s with auto := autoAfter i s.auto }) (Nat.le_of_lt_succ hcount)
  refine ⟨hzero, ?_⟩
  rw [exec_session hi, resetBody_closed hnone ((good_eq_false_iff _).mpr hzero)]
  rfl

/-! ### A second RESET -/

/-- The function neither reads nor writes the response record. -/
def CarriesRsp (f : State → State) : Prop :=
  ∀ (s : State) (r : Option Response), f { s with rsp := r } = { f s with rsp := r }

/-- The gate does not look at the response record (spec/40_address_validator.md rule R103). -/
theorem CarriesRsp.of_gate {f g : State → State} (hclosed : ∀ {s}, good s = false → f s = s)
    (hopen : ∀ {s}, good s = true → f s = g s) (h : CarriesRsp g) : CarriesRsp f := by
  intro s r
  cases hg : good s
  · rw [hclosed (s := { s with rsp := r }) hg, hclosed hg]
  · rw [hopen (s := { s with rsp := r }) hg, hopen hg]
    exact h s r

theorem discoverLoop_carriesRsp (turns count : Nat) : CarriesRsp (discoverLoop turns count) := by
  induction turns generalizing count with
  | zero => exact fun _ _ => rfl
  | succ turns ih =>
    intro s r
    have henum : enumNext { s with rsp := r } = ((enumNext s).1, { (enumNext s).2 with rsp := r }) := rfl
    unfold discoverLoop
    rw [henum]
    rcases enumNext s with ⟨_ | a, t⟩
    · rfl
    · dsimp only
      split_ifs
      · rfl
      · exact ih _ t r
      · exact ih _ t r

theorem discover_carriesRsp : CarriesRsp discover := fun s r =>
  discoverLoop_carriesRsp ((enumReset s).bus.candidates.length + 1) 0 (enumReset s) r

theorem pwrDetect_carriesRsp : CarriesRsp pwrDetect := .of_gate pwrDetect_closed pwrDetect_good fun _ _ => rfl

theorem spread_carriesRsp (n : Nat) : CarriesRsp (spread n) :=
  .of_gate (fun h => spread_closed h n) (fun h => spread_good h n) fun _ _ => rfl

/-- What RESET leaves is determined by the state after its first step, the record of the command before apart. -/
theorem resetBody_congr {s t : State} {r : Option Response} (h : loadDefaults t = { loadDefaults s with rsp := r }) :
    resetBody t = resetBody s := by
  have hparams : t.params = s.params := by simpa using congrArg State.params h
  have hread : spread t.params.nFull (pwrDetect (discover (loadDefaults t))) =
      { spread s.params.nFull (pwrDetect (discover (loadDefaults s))) with rsp := r } := by
    rw [h, hparams, discover_carriesRsp, pwrDetect_carriesRsp, spread_carriesRsp]
  have hanswer (u : State) :
      respond false (status { u with rsp := r }) 0 0 { u with rsp := r } = respond false (status u) 0 0 u := rfl
  rw [resetBody, resetBody, hread, hanswer]

/-- The first step of RESET writes all that RESET may have written, but for the response, the transport's answers and
the trace (rule R191). -/
theorem loadDefaults_of_exec_reset {s t : State} (h : exec .reset s = .next t) :
    loadDefaults { t with bus := s.bus, trace := s.trace } = { loadDefaults s with rsp := t.rsp } := by
  obtain ⟨hparams, hidx, hseq, hinputs⟩ := exec_frame h
  obtain ⟨hkept, -⟩ := exec_writes h
  have hunwritten (r : Register) (hr : ¬MayWrite .reset r) : r.Kept s t := (hkept r).resolve_right hr
  have hauto : t.auto = s.auto := hunwritten .auto (by simp [MayWrite])
  have hfatal : t.fatal = s.fatal := hunwritten .fatal (by simp [MayWrite])
  have hcause : t.cause = s.cause := hunwritten .cause (by simp [MayWrite])
  have htmr : t.tmr = s.tmr := hunwritten .tmr (by simp [MayWrite])
  simp [loadDefaults, loadImageDefaults, setAddr, setConv, hparams, hidx, hseq, hinputs, hauto, hfatal, hcause, htmr]

/-- Settles O54: the first steps of the two RESETs lead to states that differ in the response record alone, which the
steps that follow do not look at and the answer overwrites. -/
theorem resetIsIdempotent : Obligations.ResetIsIdempotent := by
  intro s
  have h : exec .reset s = .next (resetBody s) := rfl
  exact ⟨_, h, congrArg Host.Outcome.next (resetBody_congr (loadDefaults_of_exec_reset h))⟩

end Sys2Proof.Machine
end

section
/-!
SUPPORT. Fatal and the hardware reset: what a Fatal core does, what a hardware reset leaves, which commands raise Fatal,
and that a core without a device raises none (spec/60_exceptions.md rules R200 to R206, spec/70_reset_and_hazards.md
rules R220 to R222).
-/

namespace Sys2Proof.Machine

/-! ### The step on a hardware reset, and the step in Fatal -/

/-- A hardware reset acts in every state. -/
theorem step_hwReset {s : State} {k : Nat} (hin : s.inputs.head? = some (.hwReset k)) :
    step s = .next (hardwareReset k (takeInput s)) := by
  simp only [step, nextAction, hin]

/-- In Fatal no other input is acted on, and the fault tells the cause. -/
theorem step_fatal {s : State} (hf : s.fatal = true) (hin : ∀ k, s.inputs.head? ≠ some (.hwReset k)) :
    step s = .fault (.fatal s.cause) := by
  rcases hhead : s.inputs.head? with _ | (w | w | _ | k)
  case some.hwReset => exact absurd hhead (hin k)
  all_goals simp only [step, nextAction, hhead, unlessFatal, if_pos hf]

/-- Settles O8: the step in Fatal, and the step on a hardware reset, which clears `FATAL` and `CAUSE`. -/
theorem fatalIsLeftByHardwareResetOnly : Obligations.FatalIsLeftByHardwareResetOnly := fun _ hf =>
  ⟨step_fatal hf, fun _ hin => ⟨_, step_hwReset hin, hardwareReset_fatal _ _, hardwareReset_cause _ _⟩⟩

/-- Settles O9: the step on a hardware reset, after which the core is idle and not Fatal. -/
theorem hardwareResetLeavesTheResetValues : Obligations.HardwareResetLeavesTheResetValues := by
  intro s k rest hin
  refine ⟨_, step_hwReset (by rw [hin, List.head?_cons]), (cmdReady_iff _).mpr ⟨rfl, rfl⟩, ?_⟩
  rw [takeInput_eq hin]
  rfl

/-! ### The commands that raise Fatal -/

/-- A command leaves `FATAL` and `CAUSE` as they are, or ends in Fatal with the cause CFG_UNRECOGNIZED and no record:
all steps of its program but the last leave them, and the last is the command's end. -/
theorem exec_fatal_cases {i : Instr} {s t : State} (h : exec i s = .next t) :
    (t.fatal = s.fatal ∧ t.cause = s.cause) ∨ (t.fatal = true ∧ t.cause = .cfgUnrecognized ∧ t.rsp = none) := by
  obtain ⟨steps, hprog, hfin⟩ := program_eq_append_finish s.params i
  rw [exec_eq_effects, hprog, effects_append] at h
  obtain rfl : finishCommand i (effects i steps s) = t := Host.Outcome.next.inj h
  obtain ⟨r, hend⟩ | hend := finishCommand_cases i (effects i steps s) <;> rw [hend]
  · exact .inl (effects_fatal hfin i s)
  · exact .inr ⟨rfl, rfl, rfl⟩

/-- Settles O18: a command that ends in Fatal has written `FATAL`, which only the three commands may do. -/
theorem onlyThreeCommandsRaiseFatal : Obligations.OnlyThreeCommandsRaiseFatal := by
  intro i s hf hc
  obtain ⟨t, h⟩ := exec_next i s
  refine ⟨t, h, ?_⟩
  obtain ⟨hfatal, hcause⟩ | ⟨hfatal, hcause, hrsp⟩ := exec_fatal_cases h
  · exact .inl ⟨hfatal.trans hf, hcause.trans hc⟩
  · obtain ⟨hkept, -⟩ := exec_writes h
    have hwriter : i = .gettc ∨ i = .gettf ∨ i = .getres :=
      (hkept .fatal).resolve_left fun hsame : t.fatal = s.fatal => by simp [hfatal, hf] at hsame
    exact .inr ⟨hfatal, hcause, hrsp, or_rotate.mpr hwriter⟩

/-! ### A core whose address is not Good -/

theorem levelOfCfg_cfg9 (p : Params) : levelOfCfg p p.cfg9 = some 9 := if_pos rfl

/-- The default configuration byte has the level 9 (spec/10_state.md rule R22). -/
theorem ImageDefault.levelOfCfg {s : State} (h : ImageDefault s) : levelOfCfg s.params s.cfg = some 9 := by
  obtain ⟨-, -, -, -, hcfg, -⟩ := h
  rw [hcfg, levelOfCfg_cfg9]

/-- GETRES behind the closed gate answers the level of the default byte. -/
theorem exec_getres_default {s : State} (hclosed : good s = false) (h : ImageDefault s) :
    exec .getres s = .next (respond false (status s) 9 0 s) := by
  rw [exec_closed hclosed (by simp)]
  exact congrArg _ (answerLevel_of_level h.levelOfCfg)

/-- GETTC and GETTF behind the closed gate answer the sentinel. -/
theorem exec_temp_closed {i : Instr} {s : State} (h : good s = false) (hi : i = .gettc ∨ i = .gettf) :
    exec i s = .next (respond false (status s) s.params.sentinel 0 s) := by
  obtain rfl | rfl := hi <;> rw [exec_closed h (by simp)] <;> exact congrArg _ (answerTemp_closed h _)

/-- Settles O20: behind the closed gate the three commands that may write `FATAL` or `CAUSE` answer with a record. -/
theorem notGoodAddressNeverRaisesFatal : Obligations.NotGoodAddressNeverRaisesFatal := by
  intro i s hinv hclosed
  by_cases hi : i = .gettc ∨ i = .gettf ∨ i = .getres
  · obtain htemp | rfl := or_assoc.mpr hi
    · exact ⟨_, exec_temp_closed hclosed htemp, rfl, rfl⟩
    · exact ⟨_, exec_getres_default hclosed (hinv.defaults hclosed), rfl, rfl⟩
  · obtain ⟨t, h⟩ := exec_next i s
    obtain ⟨hkept, -⟩ := exec_writes h
    exact ⟨t, h, (hkept .fatal).resolve_right hi, (hkept .cause).resolve_right hi⟩

/-! ### The commands before a device is found -/

/-- Only Good has the code 0 (spec/30_encoding.md rule R75). -/
theorem status_eq_zero_iff (s : State) : status s = 0 ↔ good s = true := by
  rw [good_iff, status, outcome]
  cases validate s.params s.addr <;> decide

theorem toBits_zero : Addr.zero.toBits = 0 := by decide

/-- Settles O55: the address is zero and the image holds its defaults, so the gated commands have a closed gate, and the
other ones answer from the zero address, the level 9 and parasite power. -/
theorem commandsBeforeADeviceIsFound : Obligations.CommandsBeforeADeviceIsFound := by
  intro s hinv hclosed
  have hdefault := hinv.defaults hclosed
  have ⟨_, _, _, _, _, hpar⟩ := hdefault
  have haddr := hinv.zeroAddress hclosed
  have hbits : s.addr.toBits = 0 := by rw [haddr, toBits_zero]
  obtain ⟨-, hispara⟩ := isparaAnswersTheCachedFlag
  obtain ⟨-, hreqbc⟩ := reqbcStartsAConversionOnEveryDevice
  obtain ⟨-, hwaitcv⟩ := waitcvWaitsTheDelayOfTheCachedByte
  refine ⟨congrArg (fun a => (validate s.params a).code) haddr,
    (status_eq_zero_iff s).not.mpr (by simp [hclosed]), rfl, ?getaddr,
    exec_temp_closed hclosed (.inl rfl), exec_temp_closed hclosed (.inr rfl), exec_getres_default hclosed hdefault,
    ?ispara, fun level => ?setres, fun n => exec_closed hclosed (by simp), exec_closed hclosed (by simp), ?reqbc,
    ?waitcv⟩
  case getaddr =>
    rw [exec, execGetaddr, hbits]
    rfl
  case ispara =>
    rw [hispara, if_pos hpar]
    rfl
  case setres =>
    rw [exec_closed hclosed (by simp)]
    exact congrArg _ (answerWritten_closed hclosed)
  case reqbc =>
    rw [hreqbc, hpar]
    rfl
  case waitcv =>
    rw [hwaitcv, delayOfCfg_of_level hdefault.levelOfCfg]
    rfl

end Sys2Proof.Machine
end
